-- ==== Sys2Proof/Word.lean ====
section
/-! DEFINITION. The word types of the machine and the arithmetic they need that no instruction owns.
Bit vectors hold what the spec treats as bits: register values, addresses while they are computed,
fields of an instruction word (R17, R19, 00_scope.md). -/

namespace Sys2Proof

/-- The unit of memory (R70, 20_memory.md). -/
abbrev Byte := BitVec 8

/-- A register-sized value. It has 64 bits whatever XLEN is: for XLEN = 32 the machine keeps the low
32 bits and holds zero above them (log 11). -/
abbrev Word := BitVec 64

/-- A 5-bit register number: an `x` or an `f` register according to the instruction (R24, 00_scope.md). -/
abbrev Reg := BitVec 5

/-- A 3-bit register field of a compressed instruction, naming register 8 + field (R130, 30_encoding.md). -/
abbrev CReg := BitVec 3

/-- The register a 3-bit compressed field names (R130, 30_encoding.md). -/
abbrev CReg.full (r : CReg) : Reg := 0b01#2 ++ r

end Sys2Proof
end

