-- ==== Sys2Proof/Config.lean ====
section
/-! DEFINITION. The parameters of the model (R12, 00_scope.md) as plain data, and the free values: the
draws of the spec, each an opaque constant with no body, so that a statement holds whatever it is. -/

namespace Sys2Proof

/-- XLEN: the width of every `x` register and of the `pc` (R12, 00_scope.md). -/
inductive Xlen where
  | rv32
  | rv64
  deriving DecidableEq, Repr

/-- XLEN as a number. -/
def Xlen.bits : Xlen → Nat
  | .rv32 => 32
  | .rv64 => 64

/-- The floating-point part of EXT: D requires F (R12, 00_scope.md), so three cases remain. -/
inductive FpExt where
  | none
  | f
  | fd
  deriving DecidableEq, Repr

/-- A privilege mode (R51, 10_state.md). -/
inductive Priv where
  | user
  | supervisor
  | machine
  deriving DecidableEq, Repr

/-- MODES: the privilege modes implemented (R12, 00_scope.md). -/
inductive Modes where
  | m
  | mu
  | msu
  deriving DecidableEq, Repr

/-- Whether a mode is in MODES. -/
def Modes.has : Modes → Priv → Bool
  | _, .machine => true
  | .m, .user => false
  | .mu, .user => true
  | .msu, .user => true
  | .m, .supervisor => false
  | .mu, .supervisor => false
  | .msu, .supervisor => true

/-- MISALIGNED: what a misaligned load or store does (R75, 20_memory.md). -/
inductive Misaligned where
  | trap
  | split
  deriving DecidableEq, Repr

/-- TRAP: what the hart does when an exception is raised (R590, 60_exceptions.md). -/
inductive TrapMode where
  | halt
  | machine
  deriving DecidableEq, Repr

/-- SC_FAIL: whether a store-conditional may fail although its reservation is held (R304, 44_rva.md). -/
inductive ScFail where
  | may
  | never
  deriving DecidableEq, Repr

/-- The class of a byte address (R84, 20_memory.md). -/
inductive RegionClass where
  | ram
  | io
  | none
  deriving DecidableEq, Repr

/-- A run of byte addresses of one class; MEMMAP is a list of them (R84, 20_memory.md). -/
structure Region where
  base : Nat
  size : Nat
  cls : RegionClass
  deriving DecidableEq, Repr

/-- The parameters of one run (R12, 00_scope.md). They never change (R56, 10_state.md; log 1). A field with a
value here is one that R12 gives a default; the others are open arguments. -/
structure Config where
  xlen : Xlen
  m : Bool
  a : Bool
  c : Bool
  fp : FpExt
  modes : Modes
  misaligned : Misaligned := .trap
  trap : TrapMode := .halt
  scFail : ScFail := .may
  /-- RES_GRANULE: none for the access width, `some g` for `g` bytes (R304, 44_rva.md; log 28). -/
  granule : Option Nat := none
  memmap : List Region
  resetPc : Word
  deriving DecidableEq, Repr

/-- F is in EXT. -/
def Config.hasF (cfg : Config) : Bool := cfg.fp != .none

/-- D is in EXT. -/
def Config.hasD (cfg : Config) : Bool := cfg.fp == .fd

/-- IALIGN is 16 when C is in EXT and 32 otherwise (R12, 00_scope.md; R80, 20_memory.md). -/
def Config.ialign16 (cfg : Config) : Bool := cfg.c

/-- The arguments with which `State.reset` is built; `State.initial` builds the initial state from any others.
MISALIGNED, SC_FAIL and RES_GRANULE have the defaults of R12. DESIGN CHOICE (log 2): RV64 with every extension,
the three modes, the whole address space ram, RESET_PC 0x80000000, and of the two settings that R590
(60_exceptions.md) offers TRAP = machine, which a program with a handler of its own needs. -/
def Config.reset : Config where
  xlen := .rv64
  m := true
  a := true
  c := true
  fp := .fd
  modes := .msu
  trap := .machine
  memmap := [{ base := 0, size := 0x10000000000000000, cls := .ram }]
  resetPc := 0x80000000#64

/-- The 64-bit counters of R47 (10_state.md). -/
inductive Counter where
  | cycle
  | time
  | instret
  deriving DecidableEq, Repr

/-- DESIGN CHOICE (log 12): the value of a counter when it is read at a tick (R47, 10_state.md; R615,
60_exceptions.md). -/
opaque Config.freeCounter : Counter → Nat → Word

/-- DESIGN CHOICE (log 12): the high half of a counter when its `h` CSR is read at a tick. It is a draw
of its own (R47, 10_state.md: "two separate draws"). -/
opaque Config.freeCounterHigh : Counter → Nat → BitVec 32

/-- DESIGN CHOICE (log 13): what the unnamed bits of `mstatus` read as at a tick (R48, 10_state.md). -/
opaque Config.freeMstatus : Nat → Word

/-- DESIGN CHOICE (log 13): what the unnamed bits of `sstatus` read as at a tick (R49, 10_state.md). -/
opaque Config.freeSstatus : Nat → Word

/-- DESIGN CHOICE (log 14): which legal mode MPP takes when a code of no implemented mode is written
(R48, 10_state.md: "an implementation-chosen legal code"), by the tick and the two bits written. -/
opaque Config.freeMpp : Nat → BitVec 2 → Nat

/-- DESIGN CHOICE (log 15): the byte that a read of an `io` address returns at a tick (R79, 20_memory.md). -/
opaque Config.freeIo : Nat → Nat → Byte

/-- DESIGN CHOICE (log 16): whether a store-conditional to another address or width inside the
reservation set succeeds at a tick (R304, 44_rva.md). -/
opaque Config.freeScInside : Nat → Bool

/-- DESIGN CHOICE (log 16): `spurious_failure()` at a tick (R304, 44_rva.md). -/
opaque Config.freeScSpurious : Nat → Bool

/-- DESIGN CHOICE (log 17): whether a `wfi` with nothing pending idles at a tick (R251, 42_system.md). -/
opaque Config.freeWfiIdles : Nat → Bool

/-- DESIGN CHOICE (log 18): whether a fetch at a tick sees the old value of the dirty byte at an address
(R95, 20_memory.md: "a draw between the byte's value at the last fence.i and its current value"). -/
opaque Config.freeFetchOld : Nat → Nat → Bool

end Sys2Proof
end

