-- ==== Sys2Proof/Syntax.lean ====
section
/-! DEFINITION. The instructions: one constructor per row of spec/opcode_table.json, with the operands the
encoding figures give it (R133, R134, 30_encoding.md). A register operand is its number; an immediate is
the bits the word holds: a branch offset of 12 bits is offset[12:1], a jump offset of 20 bits is
offset[20:1] (R125, R127), and a compressed immediate holds the bits its labels list (R131). -/

namespace Sys2Proof

/-- The values of the `rm` field (R148, 30_encoding.md; R343, 45_rvf.md); 101 and 110 are reserved. -/
inductive Rounding where
  | rne
  | rtz
  | rdn
  | rup
  | rmm
  | dyn
  deriving DecidableEq, Repr

/-- An instruction. -/
inductive Instr where
  -- Integer computational (40_rvi_compute.md)
  /-- `add` (R161). -/
  | add (rd : Reg) (rs1 : Reg) (rs2 : Reg)
  /-- `sub` (R187). -/
  | sub (rd : Reg) (rs1 : Reg) (rs2 : Reg)
  /-- `sll` (R171). -/
  | sll (rd : Reg) (rs1 : Reg) (rs2 : Reg)
  /-- `slt` (R175). -/
  | slt (rd : Reg) (rs1 : Reg) (rs2 : Reg)
  /-- `sltu` (R178). -/
  | sltu (rd : Reg) (rs1 : Reg) (rs2 : Reg)
  /-- `xor` (R189). -/
  | xor (rd : Reg) (rs1 : Reg) (rs2 : Reg)
  /-- `srl` (R183). -/
  | srl (rd : Reg) (rs1 : Reg) (rs2 : Reg)
  /-- `sra` (R179). -/
  | sra (rd : Reg) (rs1 : Reg) (rs2 : Reg)
  /-- `or` (R169). -/
  | or (rd : Reg) (rs1 : Reg) (rs2 : Reg)
  /-- `and` (R165). -/
  | and (rd : Reg) (rs1 : Reg) (rs2 : Reg)
  /-- `addi` (R162). -/
  | addi (rd : Reg) (rs1 : Reg) (imm : BitVec 12)
  /-- `slti` (R176). -/
  | slti (rd : Reg) (rs1 : Reg) (imm : BitVec 12)
  /-- `sltiu` (R177). -/
  | sltiu (rd : Reg) (rs1 : Reg) (imm : BitVec 12)
  /-- `xori` (R190). -/
  | xori (rd : Reg) (rs1 : Reg) (imm : BitVec 12)
  /-- `ori` (R170). -/
  | ori (rd : Reg) (rs1 : Reg) (imm : BitVec 12)
  /-- `andi` (R166). -/
  | andi (rd : Reg) (rs1 : Reg) (imm : BitVec 12)
  /-- `slli` (R172). -/
  | slli (rd : Reg) (rs1 : Reg) (shamt : BitVec 6)
  /-- `srli` (R184). -/
  | srli (rd : Reg) (rs1 : Reg) (shamt : BitVec 6)
  /-- `srai` (R180). -/
  | srai (rd : Reg) (rs1 : Reg) (shamt : BitVec 6)
  /-- `lui` (R168). -/
  | lui (rd : Reg) (imm : BitVec 20)
  /-- `auipc` (R167). -/
  | auipc (rd : Reg) (imm : BitVec 20)
  /-- `addw` (R164). -/
  | addw (rd : Reg) (rs1 : Reg) (rs2 : Reg)
  /-- `subw` (R188). -/
  | subw (rd : Reg) (rs1 : Reg) (rs2 : Reg)
  /-- `sllw` (R174). -/
  | sllw (rd : Reg) (rs1 : Reg) (rs2 : Reg)
  /-- `srlw` (R186). -/
  | srlw (rd : Reg) (rs1 : Reg) (rs2 : Reg)
  /-- `sraw` (R182). -/
  | sraw (rd : Reg) (rs1 : Reg) (rs2 : Reg)
  /-- `addiw` (R163). -/
  | addiw (rd : Reg) (rs1 : Reg) (imm : BitVec 12)
  /-- `slliw` (R173). -/
  | slliw (rd : Reg) (rs1 : Reg) (shamt : BitVec 5)
  /-- `srliw` (R185). -/
  | srliw (rd : Reg) (rs1 : Reg) (shamt : BitVec 5)
  /-- `sraiw` (R181). -/
  | sraiw (rd : Reg) (rs1 : Reg) (shamt : BitVec 5)
  -- Branches and jumps (41_rvi_control_mem.md)
  /-- `beq` (R201). -/
  | beq (rs1 : Reg) (rs2 : Reg) (off : BitVec 12)
  /-- `bne` (R202). -/
  | bne (rs1 : Reg) (rs2 : Reg) (off : BitVec 12)
  /-- `blt` (R203). -/
  | blt (rs1 : Reg) (rs2 : Reg) (off : BitVec 12)
  /-- `bge` (R204). -/
  | bge (rs1 : Reg) (rs2 : Reg) (off : BitVec 12)
  /-- `bltu` (R205). -/
  | bltu (rs1 : Reg) (rs2 : Reg) (off : BitVec 12)
  /-- `bgeu` (R206). -/
  | bgeu (rs1 : Reg) (rs2 : Reg) (off : BitVec 12)
  /-- `jal` (R207). -/
  | jal (rd : Reg) (off : BitVec 20)
  /-- `jalr` (R208). -/
  | jalr (rd : Reg) (rs1 : Reg) (off : BitVec 12)
  -- Loads, stores and fences (41_rvi_control_mem.md)
  /-- `lb` (R211). -/
  | lb (rd : Reg) (rs1 : Reg) (off : BitVec 12)
  /-- `lh` (R213). -/
  | lh (rd : Reg) (rs1 : Reg) (off : BitVec 12)
  /-- `lw` (R215). -/
  | lw (rd : Reg) (rs1 : Reg) (off : BitVec 12)
  /-- `ld` (R217). -/
  | ld (rd : Reg) (rs1 : Reg) (off : BitVec 12)
  /-- `lbu` (R212). -/
  | lbu (rd : Reg) (rs1 : Reg) (off : BitVec 12)
  /-- `lhu` (R214). -/
  | lhu (rd : Reg) (rs1 : Reg) (off : BitVec 12)
  /-- `lwu` (R216). -/
  | lwu (rd : Reg) (rs1 : Reg) (off : BitVec 12)
  /-- `sb` (R219). -/
  | sb (rs1 : Reg) (rs2 : Reg) (off : BitVec 12)
  /-- `sh` (R220). -/
  | sh (rs1 : Reg) (rs2 : Reg) (off : BitVec 12)
  /-- `sw` (R221). -/
  | sw (rs1 : Reg) (rs2 : Reg) (off : BitVec 12)
  /-- `sd` (R222). -/
  | sd (rs1 : Reg) (rs2 : Reg) (off : BitVec 12)
  /-- `fence` (R226). -/
  | fence (pred : BitVec 4) (succ : BitVec 4)
  /-- `fence.i` (R227). -/
  | fence_i
  -- System (42_system.md)
  /-- `csrrw` (R241). -/
  | csrrw (rd : Reg) (csr : BitVec 12) (rs1 : Reg)
  /-- `csrrs` (R242). -/
  | csrrs (rd : Reg) (csr : BitVec 12) (rs1 : Reg)
  /-- `csrrc` (R243). -/
  | csrrc (rd : Reg) (csr : BitVec 12) (rs1 : Reg)
  /-- `csrrwi` (R244). -/
  | csrrwi (rd : Reg) (csr : BitVec 12) (zimm : BitVec 5)
  /-- `csrrsi` (R245). -/
  | csrrsi (rd : Reg) (csr : BitVec 12) (zimm : BitVec 5)
  /-- `csrrci` (R246). -/
  | csrrci (rd : Reg) (csr : BitVec 12) (zimm : BitVec 5)
  /-- `ecall` (R247). -/
  | ecall
  /-- `ebreak` (R248). -/
  | ebreak
  /-- `mret` (R249). -/
  | mret
  /-- `sret` (R250). -/
  | sret
  /-- `wfi` (R251). -/
  | wfi
  /-- `sfence.vma` (R252). -/
  | sfence_vma (rs1 : Reg) (rs2 : Reg)
  -- M extension (43_rvm.md)
  /-- `mul` (R273). -/
  | mul (rd : Reg) (rs1 : Reg) (rs2 : Reg)
  /-- `mulh` (R274). -/
  | mulh (rd : Reg) (rs1 : Reg) (rs2 : Reg)
  /-- `mulhsu` (R275). -/
  | mulhsu (rd : Reg) (rs1 : Reg) (rs2 : Reg)
  /-- `mulhu` (R276). -/
  | mulhu (rd : Reg) (rs1 : Reg) (rs2 : Reg)
  /-- `div` (R278). -/
  | div (rd : Reg) (rs1 : Reg) (rs2 : Reg)
  /-- `divu` (R279). -/
  | divu (rd : Reg) (rs1 : Reg) (rs2 : Reg)
  /-- `rem` (R280). -/
  | rem (rd : Reg) (rs1 : Reg) (rs2 : Reg)
  /-- `remu` (R281). -/
  | remu (rd : Reg) (rs1 : Reg) (rs2 : Reg)
  /-- `mulw` (R277). -/
  | mulw (rd : Reg) (rs1 : Reg) (rs2 : Reg)
  /-- `divw` (R282). -/
  | divw (rd : Reg) (rs1 : Reg) (rs2 : Reg)
  /-- `divuw` (R283). -/
  | divuw (rd : Reg) (rs1 : Reg) (rs2 : Reg)
  /-- `remw` (R284). -/
  | remw (rd : Reg) (rs1 : Reg) (rs2 : Reg)
  /-- `remuw` (R285). -/
  | remuw (rd : Reg) (rs1 : Reg) (rs2 : Reg)
  -- A extension (44_rva.md)
  /-- `lr.w` (R329). -/
  | lr_w (rd : Reg) (rs1 : Reg) (aq : BitVec 1) (rl : BitVec 1)
  /-- `lr.d` (R328). -/
  | lr_d (rd : Reg) (rs1 : Reg) (aq : BitVec 1) (rl : BitVec 1)
  /-- `sc.w` (R331). -/
  | sc_w (rd : Reg) (rs1 : Reg) (rs2 : Reg) (aq : BitVec 1) (rl : BitVec 1)
  /-- `sc.d` (R330). -/
  | sc_d (rd : Reg) (rs1 : Reg) (rs2 : Reg) (aq : BitVec 1) (rl : BitVec 1)
  /-- `amoswap.w` (R325). -/
  | amoswap_w (rd : Reg) (rs1 : Reg) (rs2 : Reg) (aq : BitVec 1) (rl : BitVec 1)
  /-- `amoswap.d` (R324). -/
  | amoswap_d (rd : Reg) (rs1 : Reg) (rs2 : Reg) (aq : BitVec 1) (rl : BitVec 1)
  /-- `amoadd.w` (R311). -/
  | amoadd_w (rd : Reg) (rs1 : Reg) (rs2 : Reg) (aq : BitVec 1) (rl : BitVec 1)
  /-- `amoadd.d` (R310). -/
  | amoadd_d (rd : Reg) (rs1 : Reg) (rs2 : Reg) (aq : BitVec 1) (rl : BitVec 1)
  /-- `amoxor.w` (R327). -/
  | amoxor_w (rd : Reg) (rs1 : Reg) (rs2 : Reg) (aq : BitVec 1) (rl : BitVec 1)
  /-- `amoxor.d` (R326). -/
  | amoxor_d (rd : Reg) (rs1 : Reg) (rs2 : Reg) (aq : BitVec 1) (rl : BitVec 1)
  /-- `amoand.w` (R313). -/
  | amoand_w (rd : Reg) (rs1 : Reg) (rs2 : Reg) (aq : BitVec 1) (rl : BitVec 1)
  /-- `amoand.d` (R312). -/
  | amoand_d (rd : Reg) (rs1 : Reg) (rs2 : Reg) (aq : BitVec 1) (rl : BitVec 1)
  /-- `amoor.w` (R323). -/
  | amoor_w (rd : Reg) (rs1 : Reg) (rs2 : Reg) (aq : BitVec 1) (rl : BitVec 1)
  /-- `amoor.d` (R322). -/
  | amoor_d (rd : Reg) (rs1 : Reg) (rs2 : Reg) (aq : BitVec 1) (rl : BitVec 1)
  /-- `amomin.w` (R319). -/
  | amomin_w (rd : Reg) (rs1 : Reg) (rs2 : Reg) (aq : BitVec 1) (rl : BitVec 1)
  /-- `amomin.d` (R318). -/
  | amomin_d (rd : Reg) (rs1 : Reg) (rs2 : Reg) (aq : BitVec 1) (rl : BitVec 1)
  /-- `amomax.w` (R315). -/
  | amomax_w (rd : Reg) (rs1 : Reg) (rs2 : Reg) (aq : BitVec 1) (rl : BitVec 1)
  /-- `amomax.d` (R314). -/
  | amomax_d (rd : Reg) (rs1 : Reg) (rs2 : Reg) (aq : BitVec 1) (rl : BitVec 1)
  /-- `amominu.w` (R321). -/
  | amominu_w (rd : Reg) (rs1 : Reg) (rs2 : Reg) (aq : BitVec 1) (rl : BitVec 1)
  /-- `amominu.d` (R320). -/
  | amominu_d (rd : Reg) (rs1 : Reg) (rs2 : Reg) (aq : BitVec 1) (rl : BitVec 1)
  /-- `amomaxu.w` (R317). -/
  | amomaxu_w (rd : Reg) (rs1 : Reg) (rs2 : Reg) (aq : BitVec 1) (rl : BitVec 1)
  /-- `amomaxu.d` (R316). -/
  | amomaxu_d (rd : Reg) (rs1 : Reg) (rs2 : Reg) (aq : BitVec 1) (rl : BitVec 1)
  -- F extension (45_rvf.md)
  /-- `flw` (R379). -/
  | flw (rd : Reg) (rs1 : Reg) (off : BitVec 12)
  /-- `fsw` (R380). -/
  | fsw (rs1 : Reg) (rs2 : Reg) (off : BitVec 12)
  /-- `fmadd.s` (R356). -/
  | fmadd_s (rd : Reg) (rs1 : Reg) (rs2 : Reg) (rs3 : Reg) (rm : Rounding)
  /-- `fmsub.s` (R357). -/
  | fmsub_s (rd : Reg) (rs1 : Reg) (rs2 : Reg) (rs3 : Reg) (rm : Rounding)
  /-- `fnmsub.s` (R359). -/
  | fnmsub_s (rd : Reg) (rs1 : Reg) (rs2 : Reg) (rs3 : Reg) (rm : Rounding)
  /-- `fnmadd.s` (R358). -/
  | fnmadd_s (rd : Reg) (rs1 : Reg) (rs2 : Reg) (rs3 : Reg) (rm : Rounding)
  /-- `fadd.s` (R351). -/
  | fadd_s (rd : Reg) (rs1 : Reg) (rs2 : Reg) (rm : Rounding)
  /-- `fsub.s` (R352). -/
  | fsub_s (rd : Reg) (rs1 : Reg) (rs2 : Reg) (rm : Rounding)
  /-- `fmul.s` (R353). -/
  | fmul_s (rd : Reg) (rs1 : Reg) (rs2 : Reg) (rm : Rounding)
  /-- `fdiv.s` (R354). -/
  | fdiv_s (rd : Reg) (rs1 : Reg) (rs2 : Reg) (rm : Rounding)
  /-- `fsqrt.s` (R355). -/
  | fsqrt_s (rd : Reg) (rs1 : Reg) (rm : Rounding)
  /-- `fsgnj.s` (R362). -/
  | fsgnj_s (rd : Reg) (rs1 : Reg) (rs2 : Reg)
  /-- `fsgnjn.s` (R363). -/
  | fsgnjn_s (rd : Reg) (rs1 : Reg) (rs2 : Reg)
  /-- `fsgnjx.s` (R364). -/
  | fsgnjx_s (rd : Reg) (rs1 : Reg) (rs2 : Reg)
  /-- `fmin.s` (R360). -/
  | fmin_s (rd : Reg) (rs1 : Reg) (rs2 : Reg)
  /-- `fmax.s` (R361). -/
  | fmax_s (rd : Reg) (rs1 : Reg) (rs2 : Reg)
  /-- `feq.s` (R365). -/
  | feq_s (rd : Reg) (rs1 : Reg) (rs2 : Reg)
  /-- `flt.s` (R366). -/
  | flt_s (rd : Reg) (rs1 : Reg) (rs2 : Reg)
  /-- `fle.s` (R367). -/
  | fle_s (rd : Reg) (rs1 : Reg) (rs2 : Reg)
  /-- `fclass.s` (R368). -/
  | fclass_s (rd : Reg) (rs1 : Reg)
  /-- `fcvt.w.s` (R369). -/
  | fcvt_w_s (rd : Reg) (rs1 : Reg) (rm : Rounding)
  /-- `fcvt.s.w` (R373). -/
  | fcvt_s_w (rd : Reg) (rs1 : Reg) (rm : Rounding)
  /-- `fcvt.wu.s` (R370). -/
  | fcvt_wu_s (rd : Reg) (rs1 : Reg) (rm : Rounding)
  /-- `fcvt.s.wu` (R374). -/
  | fcvt_s_wu (rd : Reg) (rs1 : Reg) (rm : Rounding)
  /-- `fcvt.l.s` (R371). -/
  | fcvt_l_s (rd : Reg) (rs1 : Reg) (rm : Rounding)
  /-- `fcvt.s.l` (R375). -/
  | fcvt_s_l (rd : Reg) (rs1 : Reg) (rm : Rounding)
  /-- `fcvt.lu.s` (R372). -/
  | fcvt_lu_s (rd : Reg) (rs1 : Reg) (rm : Rounding)
  /-- `fcvt.s.lu` (R376). -/
  | fcvt_s_lu (rd : Reg) (rs1 : Reg) (rm : Rounding)
  /-- `fmv.x.w` (R377). -/
  | fmv_x_w (rd : Reg) (rs1 : Reg)
  /-- `fmv.w.x` (R378). -/
  | fmv_w_x (rd : Reg) (rs1 : Reg)
  -- D extension (46_rvd.md)
  /-- `fld` (R435). -/
  | fld (rd : Reg) (rs1 : Reg) (off : BitVec 12)
  /-- `fsd` (R436). -/
  | fsd (rs1 : Reg) (rs2 : Reg) (off : BitVec 12)
  /-- `fmadd.d` (R410). -/
  | fmadd_d (rd : Reg) (rs1 : Reg) (rs2 : Reg) (rs3 : Reg) (rm : Rounding)
  /-- `fmsub.d` (R411). -/
  | fmsub_d (rd : Reg) (rs1 : Reg) (rs2 : Reg) (rs3 : Reg) (rm : Rounding)
  /-- `fnmsub.d` (R413). -/
  | fnmsub_d (rd : Reg) (rs1 : Reg) (rs2 : Reg) (rs3 : Reg) (rm : Rounding)
  /-- `fnmadd.d` (R412). -/
  | fnmadd_d (rd : Reg) (rs1 : Reg) (rs2 : Reg) (rs3 : Reg) (rm : Rounding)
  /-- `fadd.d` (R405). -/
  | fadd_d (rd : Reg) (rs1 : Reg) (rs2 : Reg) (rm : Rounding)
  /-- `fsub.d` (R406). -/
  | fsub_d (rd : Reg) (rs1 : Reg) (rs2 : Reg) (rm : Rounding)
  /-- `fmul.d` (R407). -/
  | fmul_d (rd : Reg) (rs1 : Reg) (rs2 : Reg) (rm : Rounding)
  /-- `fdiv.d` (R408). -/
  | fdiv_d (rd : Reg) (rs1 : Reg) (rs2 : Reg) (rm : Rounding)
  /-- `fsqrt.d` (R409). -/
  | fsqrt_d (rd : Reg) (rs1 : Reg) (rm : Rounding)
  /-- `fsgnj.d` (R416). -/
  | fsgnj_d (rd : Reg) (rs1 : Reg) (rs2 : Reg)
  /-- `fsgnjn.d` (R417). -/
  | fsgnjn_d (rd : Reg) (rs1 : Reg) (rs2 : Reg)
  /-- `fsgnjx.d` (R418). -/
  | fsgnjx_d (rd : Reg) (rs1 : Reg) (rs2 : Reg)
  /-- `fmin.d` (R414). -/
  | fmin_d (rd : Reg) (rs1 : Reg) (rs2 : Reg)
  /-- `fmax.d` (R415). -/
  | fmax_d (rd : Reg) (rs1 : Reg) (rs2 : Reg)
  /-- `feq.d` (R419). -/
  | feq_d (rd : Reg) (rs1 : Reg) (rs2 : Reg)
  /-- `flt.d` (R420). -/
  | flt_d (rd : Reg) (rs1 : Reg) (rs2 : Reg)
  /-- `fle.d` (R421). -/
  | fle_d (rd : Reg) (rs1 : Reg) (rs2 : Reg)
  /-- `fclass.d` (R422). -/
  | fclass_d (rd : Reg) (rs1 : Reg)
  /-- `fcvt.w.d` (R423). -/
  | fcvt_w_d (rd : Reg) (rs1 : Reg) (rm : Rounding)
  /-- `fcvt.d.w` (R427). -/
  | fcvt_d_w (rd : Reg) (rs1 : Reg) (rm : Rounding)
  /-- `fcvt.wu.d` (R424). -/
  | fcvt_wu_d (rd : Reg) (rs1 : Reg) (rm : Rounding)
  /-- `fcvt.d.wu` (R428). -/
  | fcvt_d_wu (rd : Reg) (rs1 : Reg) (rm : Rounding)
  /-- `fcvt.l.d` (R425). -/
  | fcvt_l_d (rd : Reg) (rs1 : Reg) (rm : Rounding)
  /-- `fcvt.d.l` (R429). -/
  | fcvt_d_l (rd : Reg) (rs1 : Reg) (rm : Rounding)
  /-- `fcvt.lu.d` (R426). -/
  | fcvt_lu_d (rd : Reg) (rs1 : Reg) (rm : Rounding)
  /-- `fcvt.d.lu` (R430). -/
  | fcvt_d_lu (rd : Reg) (rs1 : Reg) (rm : Rounding)
  /-- `fcvt.s.d` (R431). -/
  | fcvt_s_d (rd : Reg) (rs1 : Reg) (rm : Rounding)
  /-- `fcvt.d.s` (R432). -/
  | fcvt_d_s (rd : Reg) (rs1 : Reg) (rm : Rounding)
  /-- `fmv.x.d` (R433). -/
  | fmv_x_d (rd : Reg) (rs1 : Reg)
  /-- `fmv.d.x` (R434). -/
  | fmv_d_x (rd : Reg) (rs1 : Reg)
  -- C extension (47_rvc.md): immediates hold the encoded bits in order, highest first (R131)
  /-- `c.addi4spn` (R460). -/
  | c_addi4spn (rd : CReg) (uimm : BitVec 8)
  /-- `c.fld` (R488). -/
  | c_fld (rd : CReg) (rs1 : CReg) (uimm : BitVec 5)
  /-- `c.lw` (R485). -/
  | c_lw (rd : CReg) (rs1 : CReg) (uimm : BitVec 5)
  /-- `c.flw` (R487). -/
  | c_flw (rd : CReg) (rs1 : CReg) (uimm : BitVec 5)
  /-- `c.ld` (R486). -/
  | c_ld (rd : CReg) (rs1 : CReg) (uimm : BitVec 5)
  /-- `c.fsd` (R492). -/
  | c_fsd (rs1 : CReg) (rs2 : CReg) (uimm : BitVec 5)
  /-- `c.sw` (R489). -/
  | c_sw (rs1 : CReg) (rs2 : CReg) (uimm : BitVec 5)
  /-- `c.fsw` (R491). -/
  | c_fsw (rs1 : CReg) (rs2 : CReg) (uimm : BitVec 5)
  /-- `c.sd` (R490). -/
  | c_sd (rs1 : CReg) (rs2 : CReg) (uimm : BitVec 5)
  /-- `c.addi` (R461). -/
  | c_addi (rd : Reg) (imm : BitVec 6)
  /-- `c.jal` (R482). -/
  | c_jal (off : BitVec 11)
  /-- `c.addiw` (R462). -/
  | c_addiw (rd : Reg) (imm : BitVec 6)
  /-- `c.li` (R464). -/
  | c_li (rd : Reg) (imm : BitVec 6)
  /-- `c.addi16sp` (R463). -/
  | c_addi16sp (imm : BitVec 6)
  /-- `c.lui` (R465). -/
  | c_lui (rd : Reg) (imm : BitVec 6)
  /-- `c.srli` (R467). -/
  | c_srli (rd : CReg) (uimm : BitVec 6)
  /-- `c.srai` (R468). -/
  | c_srai (rd : CReg) (uimm : BitVec 6)
  /-- `c.andi` (R469). -/
  | c_andi (rd : CReg) (imm : BitVec 6)
  /-- `c.sub` (R475). -/
  | c_sub (rd : CReg) (rs2 : CReg)
  /-- `c.xor` (R476). -/
  | c_xor (rd : CReg) (rs2 : CReg)
  /-- `c.or` (R477). -/
  | c_or (rd : CReg) (rs2 : CReg)
  /-- `c.and` (R478). -/
  | c_and (rd : CReg) (rs2 : CReg)
  /-- `c.subw` (R479). -/
  | c_subw (rd : CReg) (rs2 : CReg)
  /-- `c.addw` (R480). -/
  | c_addw (rd : CReg) (rs2 : CReg)
  /-- `c.j` (R481). -/
  | c_j (off : BitVec 11)
  /-- `c.beqz` (R483). -/
  | c_beqz (rs1 : CReg) (off : BitVec 8)
  /-- `c.bnez` (R484). -/
  | c_bnez (rs1 : CReg) (off : BitVec 8)
  /-- `c.slli` (R466). -/
  | c_slli (rd : Reg) (uimm : BitVec 6)
  /-- `c.fldsp` (R496). -/
  | c_fldsp (rd : Reg) (uimm : BitVec 6)
  /-- `c.lwsp` (R493). -/
  | c_lwsp (rd : Reg) (uimm : BitVec 6)
  /-- `c.flwsp` (R495). -/
  | c_flwsp (rd : Reg) (uimm : BitVec 6)
  /-- `c.ldsp` (R494). -/
  | c_ldsp (rd : Reg) (uimm : BitVec 6)
  /-- `c.jr` (R472). -/
  | c_jr (rs1 : Reg)
  /-- `c.mv` (R470). -/
  | c_mv (rd : Reg) (rs2 : Reg)
  /-- `c.ebreak` (R473). -/
  | c_ebreak
  /-- `c.jalr` (R474). -/
  | c_jalr (rs1 : Reg)
  /-- `c.add` (R471). -/
  | c_add (rd : Reg) (rs2 : Reg)
  /-- `c.fsdsp` (R500). -/
  | c_fsdsp (rs2 : Reg) (uimm : BitVec 6)
  /-- `c.swsp` (R497). -/
  | c_swsp (rs2 : Reg) (uimm : BitVec 6)
  /-- `c.fswsp` (R499). -/
  | c_fswsp (rs2 : Reg) (uimm : BitVec 6)
  /-- `c.sdsp` (R498). -/
  | c_sdsp (rs2 : Reg) (uimm : BitVec 6)
  -- Pseudoinstructions (48_pseudo.md): no word of their own (R510; log 23)
  /-- `beqz` (R515). -/
  | beqz (rs1 : Reg) (off : BitVec 12)
  /-- `bgez` (R516). -/
  | bgez (rs1 : Reg) (off : BitVec 12)
  /-- `bgt` (R517). -/
  | bgt (rs1 : Reg) (rs2 : Reg) (off : BitVec 12)
  /-- `bgtu` (R518). -/
  | bgtu (rs1 : Reg) (rs2 : Reg) (off : BitVec 12)
  /-- `bgtz` (R519). -/
  | bgtz (rs2 : Reg) (off : BitVec 12)
  /-- `ble` (R520). -/
  | ble (rs1 : Reg) (rs2 : Reg) (off : BitVec 12)
  /-- `bleu` (R521). -/
  | bleu (rs1 : Reg) (rs2 : Reg) (off : BitVec 12)
  /-- `blez` (R522). -/
  | blez (rs2 : Reg) (off : BitVec 12)
  /-- `bltz` (R523). -/
  | bltz (rs1 : Reg) (off : BitVec 12)
  /-- `bnez` (R524). -/
  | bnez (rs1 : Reg) (off : BitVec 12)
  /-- `call` (R525). -/
  | call (rd : Reg) (hi : BitVec 20) (lo : BitVec 12)
  /-- `csrc` (R527). -/
  | csrc (csr : BitVec 12) (rs1 : Reg)
  /-- `csrci` (R528). -/
  | csrci (csr : BitVec 12) (zimm : BitVec 5)
  /-- `csrr` (R526). -/
  | csrr (rd : Reg) (csr : BitVec 12)
  /-- `csrs` (R529). -/
  | csrs (csr : BitVec 12) (rs1 : Reg)
  /-- `csrsi` (R530). -/
  | csrsi (csr : BitVec 12) (zimm : BitVec 5)
  /-- `csrw` (R531). -/
  | csrw (csr : BitVec 12) (rs1 : Reg)
  /-- `csrwi` (R532). -/
  | csrwi (csr : BitVec 12) (zimm : BitVec 5)
  /-- `fabs.d` (R533). -/
  | fabs_d (rd : Reg) (rs1 : Reg)
  /-- `fabs.s` (R534). -/
  | fabs_s (rd : Reg) (rs1 : Reg)
  /-- `fmv.d` (R535). -/
  | fmv_d (rd : Reg) (rs1 : Reg)
  /-- `fmv.s` (R536). -/
  | fmv_s (rd : Reg) (rs1 : Reg)
  /-- `fneg.d` (R537). -/
  | fneg_d (rd : Reg) (rs1 : Reg)
  /-- `fneg.s` (R538). -/
  | fneg_s (rd : Reg) (rs1 : Reg)
  /-- `frcsr` (R539). -/
  | frcsr (rd : Reg)
  /-- `frflags` (R540). -/
  | frflags (rd : Reg)
  /-- `frrm` (R541). -/
  | frrm (rd : Reg)
  /-- `fscsr` (R542). -/
  | fscsr (rd : Reg) (rs1 : Reg)
  /-- `fsflags` (R543). -/
  | fsflags (rd : Reg) (rs1 : Reg)
  /-- `fsrm` (R544). -/
  | fsrm (rd : Reg) (rs1 : Reg)
  /-- `j` (R545). -/
  | j (off : BitVec 20)
  /-- `jr` (R546). -/
  | jr (rs1 : Reg)
  /-- `la` (R547). -/
  | la (rd : Reg) (got : Bool) (hi : BitVec 20) (lo : BitVec 12)
  /-- `li` (R548). -/
  | li (rd : Reg) (imm : Word)
  /-- `lla` (R549). -/
  | lla (rd : Reg) (hi : BitVec 20) (lo : BitVec 12)
  /-- `mv` (R550). -/
  | mv (rd : Reg) (rs1 : Reg)
  /-- `neg` (R551). -/
  | neg (rd : Reg) (rs2 : Reg)
  /-- `negw` (R552). -/
  | negw (rd : Reg) (rs2 : Reg)
  /-- `nop` (R553). -/
  | nop
  /-- `not` (R554). -/
  | not (rd : Reg) (rs1 : Reg)
  /-- `rdcycle` (R555). -/
  | rdcycle (rd : Reg)
  /-- `rdcycleh` (R556). -/
  | rdcycleh (rd : Reg)
  /-- `rdinstret` (R557). -/
  | rdinstret (rd : Reg)
  /-- `rdinstreth` (R558). -/
  | rdinstreth (rd : Reg)
  /-- `rdtime` (R559). -/
  | rdtime (rd : Reg)
  /-- `rdtimeh` (R560). -/
  | rdtimeh (rd : Reg)
  /-- `ret` (R561). -/
  | ret
  /-- `seqz` (R562). -/
  | seqz (rd : Reg) (rs1 : Reg)
  /-- `sext.w` (R563). -/
  | sext_w (rd : Reg) (rs1 : Reg)
  /-- `sgtz` (R564). -/
  | sgtz (rd : Reg) (rs2 : Reg)
  /-- `sltz` (R565). -/
  | sltz (rd : Reg) (rs1 : Reg)
  /-- `snez` (R566). -/
  | snez (rd : Reg) (rs2 : Reg)
  /-- `tail` (R567). -/
  | tail (hi : BitVec 20) (lo : BitVec 12)
  deriving DecidableEq, Repr

end Sys2Proof
end

