-- ==== Sys2Proof/WellFormed.lean ====
section
/-! DEFINITION. Which terms of `Instr` are instructions of a machine with given parameters: availability
(R5, 00_scope.md; R141, 30_encoding.md) and the operand conditions that an encoding cannot rule out by
its width (R144, R145, 30_encoding.md); and which parameters R12 (00_scope.md) admits. -/

namespace Sys2Proof

/-- The extensions an availability tag asks for (R5, 00_scope.md). `s` asks for S in MODES (R141). -/
inductive NeedExt where
  | base
  | s
  | m
  | a
  | f
  | d
  | c
  | fc
  | dc
  deriving DecidableEq, Repr

/-- The widths an availability tag allows (R5, 00_scope.md). -/
inductive NeedXlen where
  | both
  | only32
  | only64
  deriving DecidableEq, Repr

/-- Whether the parameters satisfy the extension part of a tag. -/
def Config.hasExt (cfg : Config) : NeedExt → Bool
  | .base => true
  | .s => cfg.modes.has .supervisor
  | .m => cfg.m
  | .a => cfg.a
  | .f => cfg.hasF
  | .d => cfg.hasD
  | .c => cfg.c
  | .fc => cfg.hasF && cfg.c
  | .dc => cfg.hasD && cfg.c

/-- Whether the parameters satisfy the width part of a tag. -/
def Config.hasWidth (cfg : Config) : NeedXlen → Bool
  | .both => true
  | .only32 => cfg.xlen == .rv32
  | .only64 => cfg.xlen == .rv64

/-- The availability tag of each instruction (R133, R134, 30_encoding.md); that of a pseudoinstruction is
its expansion's (R510, 48_pseudo.md). -/
def Instr.tag : Instr → NeedExt × NeedXlen
  | .add .. | .sub .. | .sll .. | .slt .. | .sltu .. | .xor .. | .srl .. | .sra .. | .or ..
  | .and .. | .addi .. | .slti .. | .sltiu .. | .xori .. | .ori .. | .andi .. | .slli .. | .srli ..
  | .srai .. | .lui .. | .auipc .. | .beq .. | .bne .. | .blt .. | .bge .. | .bltu .. | .bgeu ..
  | .jal .. | .jalr .. | .lb .. | .lh .. | .lw .. | .lbu .. | .lhu .. | .sb .. | .sh .. | .sw ..
  | .fence .. | .fence_i | .csrrw .. | .csrrs .. | .csrrc .. | .csrrwi .. | .csrrsi .. | .csrrci ..
  | .ecall | .ebreak | .mret | .wfi | .beqz .. | .bgez .. | .bgt .. | .bgtu .. | .bgtz .. | .ble ..
  | .bleu .. | .blez .. | .bltz .. | .bnez .. | .call .. | .csrc .. | .csrci .. | .csrr ..
  | .csrs .. | .csrsi .. | .csrw .. | .csrwi .. | .j .. | .jr .. | .la .. | .li .. | .lla ..
  | .mv .. | .neg .. | .nop | .not .. | .rdcycle .. | .rdinstret .. | .rdtime .. | .ret | .seqz ..
  | .sgtz .. | .sltz .. | .snez .. | .tail .. => (.base, .both)
  | .addw .. | .subw .. | .sllw .. | .srlw .. | .sraw .. | .addiw .. | .slliw .. | .srliw ..
  | .sraiw .. | .ld .. | .lwu .. | .sd .. | .negw .. | .sext_w .. => (.base, .only64)
  | .sret | .sfence_vma .. => (.s, .both)
  | .mul .. | .mulh .. | .mulhsu .. | .mulhu .. | .div .. | .divu .. | .rem .. | .remu ..
   => (.m, .both)
  | .mulw .. | .divw .. | .divuw .. | .remw .. | .remuw .. => (.m, .only64)
  | .lr_w .. | .sc_w .. | .amoswap_w .. | .amoadd_w .. | .amoxor_w .. | .amoand_w .. | .amoor_w ..
  | .amomin_w .. | .amomax_w .. | .amominu_w .. | .amomaxu_w .. => (.a, .both)
  | .lr_d .. | .sc_d .. | .amoswap_d .. | .amoadd_d .. | .amoxor_d .. | .amoand_d .. | .amoor_d ..
  | .amomin_d .. | .amomax_d .. | .amominu_d .. | .amomaxu_d .. => (.a, .only64)
  | .flw .. | .fsw .. | .fmadd_s .. | .fmsub_s .. | .fnmsub_s .. | .fnmadd_s .. | .fadd_s ..
  | .fsub_s .. | .fmul_s .. | .fdiv_s .. | .fsqrt_s .. | .fsgnj_s .. | .fsgnjn_s .. | .fsgnjx_s ..
  | .fmin_s .. | .fmax_s .. | .feq_s .. | .flt_s .. | .fle_s .. | .fclass_s .. | .fcvt_w_s ..
  | .fcvt_s_w .. | .fcvt_wu_s .. | .fcvt_s_wu .. | .fmv_x_w .. | .fmv_w_x .. | .fabs_s ..
  | .fmv_s .. | .fneg_s .. | .frcsr .. | .frflags .. | .frrm .. | .fscsr .. | .fsflags ..
  | .fsrm .. => (.f, .both)
  | .fcvt_l_s .. | .fcvt_s_l .. | .fcvt_lu_s .. | .fcvt_s_lu .. => (.f, .only64)
  | .fld .. | .fsd .. | .fmadd_d .. | .fmsub_d .. | .fnmsub_d .. | .fnmadd_d .. | .fadd_d ..
  | .fsub_d .. | .fmul_d .. | .fdiv_d .. | .fsqrt_d .. | .fsgnj_d .. | .fsgnjn_d .. | .fsgnjx_d ..
  | .fmin_d .. | .fmax_d .. | .feq_d .. | .flt_d .. | .fle_d .. | .fclass_d .. | .fcvt_w_d ..
  | .fcvt_d_w .. | .fcvt_wu_d .. | .fcvt_d_wu .. | .fcvt_s_d .. | .fcvt_d_s .. | .fabs_d ..
  | .fmv_d .. | .fneg_d .. => (.d, .both)
  | .fcvt_l_d .. | .fcvt_d_l .. | .fcvt_lu_d .. | .fcvt_d_lu .. | .fmv_x_d .. | .fmv_d_x ..
   => (.d, .only64)
  | .c_addi4spn .. | .c_lw .. | .c_sw .. | .c_addi .. | .c_li .. | .c_addi16sp .. | .c_lui ..
  | .c_srli .. | .c_srai .. | .c_andi .. | .c_sub .. | .c_xor .. | .c_or .. | .c_and .. | .c_j ..
  | .c_beqz .. | .c_bnez .. | .c_slli .. | .c_lwsp .. | .c_jr .. | .c_mv .. | .c_ebreak
  | .c_jalr .. | .c_add .. | .c_swsp .. => (.c, .both)
  | .c_fld .. | .c_fsd .. | .c_fldsp .. | .c_fsdsp .. => (.dc, .both)
  | .c_flw .. | .c_fsw .. | .c_flwsp .. | .c_fswsp .. => (.fc, .only32)
  | .c_ld .. | .c_sd .. | .c_addiw .. | .c_subw .. | .c_addw .. | .c_ldsp .. | .c_sdsp ..
   => (.c, .only64)
  | .c_jal .. => (.c, .only32)
  | .rdcycleh .. | .rdinstreth .. | .rdtimeh .. => (.base, .only32)

/-- Whether an instruction exists in a machine with these parameters (R141, 30_encoding.md). -/
def Instr.available (cfg : Config) (i : Instr) : Bool :=
  cfg.hasExt i.tag.1 && cfg.hasWidth i.tag.2

/-- A shift amount of six bits is legal when bit 5 is 0 or XLEN is 64 (R144, 30_encoding.md). -/
def shamtOk (xl : Xlen) (shamt : BitVec 6) : Bool :=
  match xl with
  | .rv32 => !shamt[5]
  | .rv64 => true

/-- The operand conditions of R144 and R145 (30_encoding.md) and, for `li`, that the constant is one of
the register width (R513, 48_pseudo.md). Every instruction not named here has none. -/
def Instr.operandsOk (xl : Xlen) : Instr → Bool
  | .slli _ _ shamt | .srli _ _ shamt | .srai _ _ shamt => shamtOk xl shamt
  | .c_slli _ uimm => shamtOk xl uimm
  | .c_srli _ uimm | .c_srai _ uimm => shamtOk xl uimm
  | .c_addi4spn _ uimm => uimm != 0#8
  | .c_addi16sp imm => imm != 0#6
  | .c_addiw rd _ => rd != 0#5
  | .c_lui rd imm => rd != 2#5 && imm != 0#6
  | .c_lwsp rd _ | .c_ldsp rd _ => rd != 0#5
  | .c_jr rs1 | .c_jalr rs1 => rs1 != 0#5
  | .c_mv _ rs2 => rs2 != 0#5
  | .c_add rd rs2 => rd != 0#5 && rs2 != 0#5
  | .li _ imm =>
    match xl with
    | .rv32 => imm == (imm.setWidth 32).signExtend 64
    | .rv64 => true
  | _ => true

/-- The bytes that an instruction address is a multiple of: IALIGN / 8 (R12, 00_scope.md). -/
def Config.ialignBytes (cfg : Config) : Nat := if cfg.ialign16 then 2 else 4

/-- The values that R12 (00_scope.md) admits for the parameters whose types do not say it: RESET_PC is an address
of XLEN bits aligned to IALIGN, and RES_GRANULE is at least the width of the widest atomic access. -/
def Config.wf (cfg : Config) : Bool :=
  decide (cfg.resetPc.toNat < 2 ^ cfg.xlen.bits) && cfg.resetPc.toNat % cfg.ialignBytes == 0 &&
    match cfg.granule with
    | none => true
    | some g => decide (cfg.xlen.bits / 8 ≤ g)

/-- A term that stands for an instruction of the machine. -/
def Instr.wf (cfg : Config) (i : Instr) : Bool :=
  i.available cfg && i.operandsOk cfg.xlen

end Sys2Proof
end

