-- ==== Sys2Proof/Decode.lean ====
section
/-! DEFINITION. Decoding (R110, R140 to R148, 30_encoding.md), total on any bytes and refusing by name, and
then the encoder, written from the same encoding tables (R111 to R134, 30_encoding.md).
A 32-bit word is read as the six fields of the R format (R111) and a 16-bit word as the five fields of the
CR and CI formats (R129); every other format is a regrouping of these. -/

namespace Sys2Proof

/-! ### Fields of the words -/

/-- A 32-bit word from its R-format fields: 31:25, 24:20, 19:15, 14:12, 11:7, 6:0 (R111, 30_encoding.md). -/
def pack32 (f7 : BitVec 7) (rs2 rs1 : BitVec 5) (f3 : BitVec 3) (rd : BitVec 5) (op : BitVec 7) :
    BitVec 32 :=
  f7 ++ rs2 ++ rs1 ++ f3 ++ rd ++ op

/-- A 16-bit word from the fields 15:13, 12, 11:7, 6:2, 1:0 (R129, 30_encoding.md). -/
def pack16 (f3 : BitVec 3) (b12 : BitVec 1) (r1 r2 : BitVec 5) (op : BitVec 2) : BitVec 16 :=
  f3 ++ b12 ++ r1 ++ r2 ++ op

/-- Bits 31:25 of a word. -/
def fieldF7 (w : BitVec 32) : BitVec 7 := w.extractLsb' 25 7
/-- Bits 24:20 of a word. -/
def fieldRs2 (w : BitVec 32) : BitVec 5 := w.extractLsb' 20 5
/-- Bits 19:15 of a word. -/
def fieldRs1 (w : BitVec 32) : BitVec 5 := w.extractLsb' 15 5
/-- Bits 14:12 of a word. -/
def fieldF3 (w : BitVec 32) : BitVec 3 := w.extractLsb' 12 3
/-- Bits 11:7 of a word. -/
def fieldRd (w : BitVec 32) : BitVec 5 := w.extractLsb' 7 5
/-- Bits 6:0 of a word. -/
def fieldOp (w : BitVec 32) : BitVec 7 := w.extractLsb' 0 7

/-- Bits 15:13 of a halfword. -/
def halfF3 (h : BitVec 16) : BitVec 3 := h.extractLsb' 13 3
/-- Bit 12 of a halfword. -/
def halfB12 (h : BitVec 16) : BitVec 1 := h.extractLsb' 12 1
/-- Bits 11:7 of a halfword. -/
def halfR1 (h : BitVec 16) : BitVec 5 := h.extractLsb' 7 5
/-- Bits 6:2 of a halfword. -/
def halfR2 (h : BitVec 16) : BitVec 5 := h.extractLsb' 2 5
/-- Bits 1:0 of a halfword. -/
def halfOp (h : BitVec 16) : BitVec 2 := h.extractLsb' 0 2

/-! ### Immediates of the 32-bit formats -/

/-- The 12-bit immediate of the I format from 31:25 and 24:20 (R123), and of the S format from 31:25 and
11:7 (R124). -/
def joinI (hi : BitVec 7) (lo : BitVec 5) : BitVec 12 := hi ++ lo
/-- The upper seven bits of a 12-bit immediate. -/
def immHi (imm : BitVec 12) : BitVec 7 := imm.extractLsb' 5 7
/-- The lower five bits of a 12-bit immediate. -/
def immLo (imm : BitVec 12) : BitVec 5 := imm.extractLsb' 0 5

/-- offset[12:1] of the B format from 31:25 = offset[12|10:5] and 11:7 = offset[4:1|11] (R114, R125). -/
def joinB (hi : BitVec 7) (lo : BitVec 5) : BitVec 12 :=
  hi.extractLsb' 6 1 ++ lo.extractLsb' 0 1 ++ hi.extractLsb' 0 6 ++ lo.extractLsb' 1 4
/-- offset[12|10:5] of offset[12:1]. -/
def branchHi (off : BitVec 12) : BitVec 7 := off.extractLsb' 11 1 ++ off.extractLsb' 4 6
/-- offset[4:1|11] of offset[12:1]. -/
def branchLo (off : BitVec 12) : BitVec 5 := off.extractLsb' 0 4 ++ off.extractLsb' 10 1

/-- The 20-bit field 31:12 from the R-format fields it covers (R115, R116). -/
def joinU (f7 : BitVec 7) (rs2 rs1 : BitVec 5) (f3 : BitVec 3) : BitVec 20 := f7 ++ rs2 ++ rs1 ++ f3
/-- offset[20:1] from the field offset[20|10:1|11|19:12] (R116, R127). -/
def jumpOff (u : BitVec 20) : BitVec 20 :=
  u.extractLsb' 19 1 ++ u.extractLsb' 0 8 ++ u.extractLsb' 8 1 ++ u.extractLsb' 9 10
/-- The field offset[20|10:1|11|19:12] from offset[20:1]. -/
def jumpField (off : BitVec 20) : BitVec 20 :=
  off.extractLsb' 19 1 ++ off.extractLsb' 0 10 ++ off.extractLsb' 10 1 ++ off.extractLsb' 11 8

/-- The `rm` field (R148, 30_encoding.md; R343, 45_rvf.md). -/
def Rounding.bits : Rounding → BitVec 3
  | .rne => 0b000#3
  | .rtz => 0b001#3
  | .rdn => 0b010#3
  | .rup => 0b011#3
  | .rmm => 0b100#3
  | .dyn => 0b111#3

/-- The rounding mode an `rm` field names; 101 and 110 are reserved (R148, 30_encoding.md). -/
def roundingOf (b : BitVec 3) : Option Rounding :=
  match b with
  | 0b000#3 => some .rne
  | 0b001#3 => some .rtz
  | 0b010#3 => some .rdn
  | 0b011#3 => some .rup
  | 0b100#3 => some .rmm
  | 0b111#3 => some .dyn
  | _ => none

/-! ### Immediates of the 16-bit formats (R131, 30_encoding.md)
Each pair says which bits of the immediate the fields hold, and back. -/

/-- `c.addi4spn`: 12:5 holds uimm[5:4|9:6|2|3]; the operand is uimm[9:2]. -/
def ciwField (u : BitVec 8) : BitVec 8 :=
  u.extractLsb' 2 2 ++ u.extractLsb' 4 4 ++ u.extractLsb' 0 1 ++ u.extractLsb' 1 1
/-- The operand of `c.addi4spn` from its field. -/
def ciwImm (v : BitVec 8) : BitVec 8 :=
  v.extractLsb' 2 4 ++ v.extractLsb' 6 2 ++ v.extractLsb' 0 1 ++ v.extractLsb' 1 1

/-- `c.lw` and its kin: 12:10 and 6:5 hold uimm[5:3] and uimm[2|6]; the operand is uimm[6:2]. -/
def clwField (u : BitVec 5) : BitVec 5 := u.extractLsb' 1 3 ++ u.extractLsb' 0 1 ++ u.extractLsb' 4 1
/-- The operand of `c.lw` from its five field bits. -/
def clwImm (v : BitVec 5) : BitVec 5 := v.extractLsb' 0 1 ++ v.extractLsb' 2 3 ++ v.extractLsb' 1 1

/-- `c.ld` and its kin: 12:10 and 6:5 hold uimm[5:3] and uimm[7:6]; the operand is uimm[7:3]. -/
def cldField (u : BitVec 5) : BitVec 5 := u.extractLsb' 0 3 ++ u.extractLsb' 3 2
/-- The operand of `c.ld` from its five field bits. -/
def cldImm (v : BitVec 5) : BitVec 5 := v.extractLsb' 0 2 ++ v.extractLsb' 2 3

/-- `c.lwsp`, `c.swsp` and kin: the six field bits hold uimm[5:2|7:6]; the operand is uimm[7:2]. -/
def cwspField (u : BitVec 6) : BitVec 6 := u.extractLsb' 0 4 ++ u.extractLsb' 4 2
/-- The operand of `c.lwsp` from its six field bits. -/
def cwspImm (v : BitVec 6) : BitVec 6 := v.extractLsb' 0 2 ++ v.extractLsb' 2 4

/-- `c.ldsp`, `c.sdsp` and kin: the six field bits hold uimm[5:3|8:6]; the operand is uimm[8:3]. -/
def cdspField (u : BitVec 6) : BitVec 6 := u.extractLsb' 0 3 ++ u.extractLsb' 3 3
/-- The operand of `c.ldsp` from its six field bits. -/
def cdspImm (v : BitVec 6) : BitVec 6 := v.extractLsb' 0 3 ++ v.extractLsb' 3 3

/-- `c.addi16sp`: 12 and 6:2 hold imm[9] and imm[4|6|8:7|5]; the operand is imm[9:4]. -/
def c16Field (i : BitVec 6) : BitVec 6 :=
  i.extractLsb' 5 1 ++ i.extractLsb' 0 1 ++ i.extractLsb' 2 1 ++ i.extractLsb' 3 2 ++ i.extractLsb' 1 1
/-- The operand of `c.addi16sp` from its six field bits. -/
def c16Imm (v : BitVec 6) : BitVec 6 :=
  v.extractLsb' 5 1 ++ v.extractLsb' 1 2 ++ v.extractLsb' 3 1 ++ v.extractLsb' 0 1 ++ v.extractLsb' 4 1

/-- `c.beqz`, `c.bnez`: 12:10 and 6:2 hold offset[8|4:3] and offset[7:6|2:1|5]; the operand is
offset[8:1]. -/
def cbField (off : BitVec 8) : BitVec 8 :=
  off.extractLsb' 7 1 ++ off.extractLsb' 2 2 ++ off.extractLsb' 5 2 ++ off.extractLsb' 0 2 ++
    off.extractLsb' 4 1
/-- The operand of `c.beqz` from its eight field bits. -/
def cbOff (v : BitVec 8) : BitVec 8 :=
  v.extractLsb' 7 1 ++ v.extractLsb' 3 2 ++ v.extractLsb' 0 1 ++ v.extractLsb' 5 2 ++ v.extractLsb' 1 2

/-- `c.j`, `c.jal`: 12:2 holds offset[11|4|9:8|10|6|7|3:1|5]; the operand is offset[11:1]. -/
def cjField (off : BitVec 11) : BitVec 11 :=
  off.extractLsb' 10 1 ++ off.extractLsb' 3 1 ++ off.extractLsb' 7 2 ++ off.extractLsb' 9 1 ++
    off.extractLsb' 5 1 ++ off.extractLsb' 6 1 ++ off.extractLsb' 0 3 ++ off.extractLsb' 4 1
/-- The operand of `c.j` from its eleven field bits. -/
def cjOff (v : BitVec 11) : BitVec 11 :=
  v.extractLsb' 10 1 ++ v.extractLsb' 6 1 ++ v.extractLsb' 7 2 ++ v.extractLsb' 4 1 ++
    v.extractLsb' 5 1 ++ v.extractLsb' 0 1 ++ v.extractLsb' 9 1 ++ v.extractLsb' 1 3

/-! ### The decoder -/

/-- Why a word is no instruction of the machine; each makes the word illegal (R142, 30_encoding.md). -/
inductive DecodeError where
  /-- The bytes end before the instruction does. No step meets it: a fetch reads whole parcels. -/
  | truncated
  /-- No row of R133 or R134 has these fixed bits (R143, R147, 30_encoding.md). -/
  | noRow
  /-- The only row with these fixed bits is not available (R141, 30_encoding.md). -/
  | unavailable
  /-- A shift amount with bit 5 set where XLEN = 32 or the form forbids it (R144, 30_encoding.md). -/
  | shamt
  /-- A compressed form the source calls invalid (R145, 30_encoding.md). -/
  | invalidCompressed
  /-- A static rounding mode 101 or 110 (R148, 30_encoding.md). -/
  | reservedRounding
  deriving DecidableEq, Repr

/-- The row when its condition holds, the named error otherwise. -/
def rowIf (ok : Bool) (e : DecodeError) (i : Instr) : Except DecodeError Instr :=
  if ok then .ok i else .error e

/-- A row with an `rm` field (R148, 30_encoding.md). -/
def rowRm (f3 : BitVec 3) (k : Rounding → Instr) : Except DecodeError Instr :=
  match roundingOf f3 with
  | some rm => .ok (k rm)
  | none => .error .reservedRounding

/-- Opcode 0000011: loads (R132, R133, 30_encoding.md). -/
def decodeLoad (f3 : BitVec 3) (rd rs1 : Reg) (off : BitVec 12) : Except DecodeError Instr :=
  match f3 with
  | 0b000#3 => .ok (.lb rd rs1 off)
  | 0b001#3 => .ok (.lh rd rs1 off)
  | 0b010#3 => .ok (.lw rd rs1 off)
  | 0b011#3 => .ok (.ld rd rs1 off)
  | 0b100#3 => .ok (.lbu rd rs1 off)
  | 0b101#3 => .ok (.lhu rd rs1 off)
  | 0b110#3 => .ok (.lwu rd rs1 off)
  | _ => .error .noRow

/-- Opcode 0000111: floating-point loads. -/
def decodeFpLoad (f3 : BitVec 3) (rd rs1 : Reg) (off : BitVec 12) : Except DecodeError Instr :=
  match f3 with
  | 0b010#3 => .ok (.flw rd rs1 off)
  | 0b011#3 => .ok (.fld rd rs1 off)
  | _ => .error .noRow

/-- Opcode 0001111: `fence`, whose fields 31:28, 19:15 and 11:7 are zero, and `fence.i`, all of whose
fields are (R120, R143, 30_encoding.md). -/
def decodeFence (f7 : BitVec 7) (rs2 rs1 : BitVec 5) (f3 : BitVec 3) (rd : BitVec 5) :
    Except DecodeError Instr :=
  match f3 with
  | 0b000#3 =>
    if f7.extractLsb' 3 4 = 0b0000#4 ∧ rs1 = 0#5 ∧ rd = 0#5 then
      .ok (.fence (f7.extractLsb' 0 3 ++ rs2.extractLsb' 4 1) (rs2.extractLsb' 0 4))
    else .error .noRow
  | 0b001#3 =>
    if f7 = 0#7 ∧ rs2 = 0#5 ∧ rs1 = 0#5 ∧ rd = 0#5 then .ok .fence_i else .error .noRow
  | _ => .error .noRow

/-- Opcode 0010011: integer register-immediate (R132, R118, 30_encoding.md). -/
def decodeOpImm (xl : Xlen) (f7 : BitVec 7) (lo : BitVec 5) (rs1 : Reg) (f3 : BitVec 3) (rd : Reg) :
    Except DecodeError Instr :=
  match f3 with
  | 0b000#3 => .ok (.addi rd rs1 (joinI f7 lo))
  | 0b010#3 => .ok (.slti rd rs1 (joinI f7 lo))
  | 0b011#3 => .ok (.sltiu rd rs1 (joinI f7 lo))
  | 0b100#3 => .ok (.xori rd rs1 (joinI f7 lo))
  | 0b110#3 => .ok (.ori rd rs1 (joinI f7 lo))
  | 0b111#3 => .ok (.andi rd rs1 (joinI f7 lo))
  | 0b001#3 =>
    match f7.extractLsb' 1 6 with
    | 0b000000#6 =>
      rowIf (xl == .rv64 || !(f7[0])) .shamt (.slli rd rs1 (f7.extractLsb' 0 1 ++ lo))
    | _ => .error .noRow
  | _ =>
    match f7.extractLsb' 1 6 with
    | 0b000000#6 =>
      rowIf (xl == .rv64 || !(f7[0])) .shamt (.srli rd rs1 (f7.extractLsb' 0 1 ++ lo))
    | 0b010000#6 =>
      rowIf (xl == .rv64 || !(f7[0])) .shamt (.srai rd rs1 (f7.extractLsb' 0 1 ++ lo))
    | _ => .error .noRow

/-- Opcode 0011011: the word forms of the same (R118, R144, 30_encoding.md). -/
def decodeOpImm32 (f7 : BitVec 7) (lo : BitVec 5) (rs1 : Reg) (f3 : BitVec 3) (rd : Reg) :
    Except DecodeError Instr :=
  match f3 with
  | 0b000#3 => .ok (.addiw rd rs1 (joinI f7 lo))
  | 0b001#3 =>
    match f7.extractLsb' 1 6 with
    | 0b000000#6 => rowIf (!(f7[0])) .shamt (.slliw rd rs1 lo)
    | _ => .error .noRow
  | 0b101#3 =>
    match f7.extractLsb' 1 6 with
    | 0b000000#6 => rowIf (!(f7[0])) .shamt (.srliw rd rs1 lo)
    | 0b010000#6 => rowIf (!(f7[0])) .shamt (.sraiw rd rs1 lo)
    | _ => .error .noRow
  | _ => .error .noRow

/-- Opcode 0100011: stores. -/
def decodeStore (f3 : BitVec 3) (rs1 rs2 : Reg) (off : BitVec 12) : Except DecodeError Instr :=
  match f3 with
  | 0b000#3 => .ok (.sb rs1 rs2 off)
  | 0b001#3 => .ok (.sh rs1 rs2 off)
  | 0b010#3 => .ok (.sw rs1 rs2 off)
  | 0b011#3 => .ok (.sd rs1 rs2 off)
  | _ => .error .noRow

/-- Opcode 0100111: floating-point stores. -/
def decodeFpStore (f3 : BitVec 3) (rs1 rs2 : Reg) (off : BitVec 12) : Except DecodeError Instr :=
  match f3 with
  | 0b010#3 => .ok (.fsw rs1 rs2 off)
  | 0b011#3 => .ok (.fsd rs1 rs2 off)
  | _ => .error .noRow

/-- Opcode 0101111: the A extension, by 31:27 and 14:12 (R119, R300). -/
def decodeAmo (f7 : BitVec 7) (rs2 rs1 : Reg) (f3 : BitVec 3) (rd : Reg) : Except DecodeError Instr :=
  match f3, f7.extractLsb' 2 5 with
  | 0b010#3, 0b00010#5 => rowIf (rs2 == 0#5) .noRow (.lr_w rd rs1 (f7.extractLsb' 1 1) (f7.extractLsb' 0 1))
  | 0b011#3, 0b00010#5 => rowIf (rs2 == 0#5) .noRow (.lr_d rd rs1 (f7.extractLsb' 1 1) (f7.extractLsb' 0 1))
  | 0b010#3, 0b00011#5 => .ok (.sc_w rd rs1 rs2 (f7.extractLsb' 1 1) (f7.extractLsb' 0 1))
  | 0b011#3, 0b00011#5 => .ok (.sc_d rd rs1 rs2 (f7.extractLsb' 1 1) (f7.extractLsb' 0 1))
  | 0b010#3, 0b00001#5 => .ok (.amoswap_w rd rs1 rs2 (f7.extractLsb' 1 1) (f7.extractLsb' 0 1))
  | 0b011#3, 0b00001#5 => .ok (.amoswap_d rd rs1 rs2 (f7.extractLsb' 1 1) (f7.extractLsb' 0 1))
  | 0b010#3, 0b00000#5 => .ok (.amoadd_w rd rs1 rs2 (f7.extractLsb' 1 1) (f7.extractLsb' 0 1))
  | 0b011#3, 0b00000#5 => .ok (.amoadd_d rd rs1 rs2 (f7.extractLsb' 1 1) (f7.extractLsb' 0 1))
  | 0b010#3, 0b00100#5 => .ok (.amoxor_w rd rs1 rs2 (f7.extractLsb' 1 1) (f7.extractLsb' 0 1))
  | 0b011#3, 0b00100#5 => .ok (.amoxor_d rd rs1 rs2 (f7.extractLsb' 1 1) (f7.extractLsb' 0 1))
  | 0b010#3, 0b01100#5 => .ok (.amoand_w rd rs1 rs2 (f7.extractLsb' 1 1) (f7.extractLsb' 0 1))
  | 0b011#3, 0b01100#5 => .ok (.amoand_d rd rs1 rs2 (f7.extractLsb' 1 1) (f7.extractLsb' 0 1))
  | 0b010#3, 0b01000#5 => .ok (.amoor_w rd rs1 rs2 (f7.extractLsb' 1 1) (f7.extractLsb' 0 1))
  | 0b011#3, 0b01000#5 => .ok (.amoor_d rd rs1 rs2 (f7.extractLsb' 1 1) (f7.extractLsb' 0 1))
  | 0b010#3, 0b10000#5 => .ok (.amomin_w rd rs1 rs2 (f7.extractLsb' 1 1) (f7.extractLsb' 0 1))
  | 0b011#3, 0b10000#5 => .ok (.amomin_d rd rs1 rs2 (f7.extractLsb' 1 1) (f7.extractLsb' 0 1))
  | 0b010#3, 0b10100#5 => .ok (.amomax_w rd rs1 rs2 (f7.extractLsb' 1 1) (f7.extractLsb' 0 1))
  | 0b011#3, 0b10100#5 => .ok (.amomax_d rd rs1 rs2 (f7.extractLsb' 1 1) (f7.extractLsb' 0 1))
  | 0b010#3, 0b11000#5 => .ok (.amominu_w rd rs1 rs2 (f7.extractLsb' 1 1) (f7.extractLsb' 0 1))
  | 0b011#3, 0b11000#5 => .ok (.amominu_d rd rs1 rs2 (f7.extractLsb' 1 1) (f7.extractLsb' 0 1))
  | 0b010#3, 0b11100#5 => .ok (.amomaxu_w rd rs1 rs2 (f7.extractLsb' 1 1) (f7.extractLsb' 0 1))
  | 0b011#3, 0b11100#5 => .ok (.amomaxu_d rd rs1 rs2 (f7.extractLsb' 1 1) (f7.extractLsb' 0 1))
  | _, _ => .error .noRow

/-- Opcode 0110011: integer register-register and M (R132, R133, 30_encoding.md). -/
def decodeOp (f7 : BitVec 7) (rs2 rs1 : Reg) (f3 : BitVec 3) (rd : Reg) : Except DecodeError Instr :=
  match f7, f3 with
  | 0b0000000#7, 0b000#3 => .ok (.add rd rs1 rs2)
  | 0b0100000#7, 0b000#3 => .ok (.sub rd rs1 rs2)
  | 0b0000000#7, 0b001#3 => .ok (.sll rd rs1 rs2)
  | 0b0000000#7, 0b010#3 => .ok (.slt rd rs1 rs2)
  | 0b0000000#7, 0b011#3 => .ok (.sltu rd rs1 rs2)
  | 0b0000000#7, 0b100#3 => .ok (.xor rd rs1 rs2)
  | 0b0000000#7, 0b101#3 => .ok (.srl rd rs1 rs2)
  | 0b0100000#7, 0b101#3 => .ok (.sra rd rs1 rs2)
  | 0b0000000#7, 0b110#3 => .ok (.or rd rs1 rs2)
  | 0b0000000#7, 0b111#3 => .ok (.and rd rs1 rs2)
  | 0b0000001#7, 0b000#3 => .ok (.mul rd rs1 rs2)
  | 0b0000001#7, 0b001#3 => .ok (.mulh rd rs1 rs2)
  | 0b0000001#7, 0b010#3 => .ok (.mulhsu rd rs1 rs2)
  | 0b0000001#7, 0b011#3 => .ok (.mulhu rd rs1 rs2)
  | 0b0000001#7, 0b100#3 => .ok (.div rd rs1 rs2)
  | 0b0000001#7, 0b101#3 => .ok (.divu rd rs1 rs2)
  | 0b0000001#7, 0b110#3 => .ok (.rem rd rs1 rs2)
  | 0b0000001#7, 0b111#3 => .ok (.remu rd rs1 rs2)
  | _, _ => .error .noRow

/-- Opcode 0111011: the word forms of the same (R132, R133, 30_encoding.md). -/
def decodeOp32 (f7 : BitVec 7) (rs2 rs1 : Reg) (f3 : BitVec 3) (rd : Reg) : Except DecodeError Instr :=
  match f7, f3 with
  | 0b0000000#7, 0b000#3 => .ok (.addw rd rs1 rs2)
  | 0b0100000#7, 0b000#3 => .ok (.subw rd rs1 rs2)
  | 0b0000000#7, 0b001#3 => .ok (.sllw rd rs1 rs2)
  | 0b0000000#7, 0b101#3 => .ok (.srlw rd rs1 rs2)
  | 0b0100000#7, 0b101#3 => .ok (.sraw rd rs1 rs2)
  | 0b0000001#7, 0b000#3 => .ok (.mulw rd rs1 rs2)
  | 0b0000001#7, 0b100#3 => .ok (.divw rd rs1 rs2)
  | 0b0000001#7, 0b101#3 => .ok (.divuw rd rs1 rs2)
  | 0b0000001#7, 0b110#3 => .ok (.remw rd rs1 rs2)
  | 0b0000001#7, 0b111#3 => .ok (.remuw rd rs1 rs2)
  | _, _ => .error .noRow

/-- Opcodes 1000011, 1000111, 1001011, 1001111: fused multiply-add, by the format 26:25 (R117). -/
def decodeFma (op f7 : BitVec 7) (rs2 rs1 : Reg) (f3 : BitVec 3) (rd : Reg) : Except DecodeError Instr :=
  match op, f7.extractLsb' 0 2 with
  | 0b1000011#7, 0b00#2 => rowRm f3 (.fmadd_s rd rs1 rs2 (f7.extractLsb' 2 5))
  | 0b1000111#7, 0b00#2 => rowRm f3 (.fmsub_s rd rs1 rs2 (f7.extractLsb' 2 5))
  | 0b1001011#7, 0b00#2 => rowRm f3 (.fnmsub_s rd rs1 rs2 (f7.extractLsb' 2 5))
  | 0b1001111#7, 0b00#2 => rowRm f3 (.fnmadd_s rd rs1 rs2 (f7.extractLsb' 2 5))
  | 0b1000011#7, 0b01#2 => rowRm f3 (.fmadd_d rd rs1 rs2 (f7.extractLsb' 2 5))
  | 0b1000111#7, 0b01#2 => rowRm f3 (.fmsub_d rd rs1 rs2 (f7.extractLsb' 2 5))
  | 0b1001011#7, 0b01#2 => rowRm f3 (.fnmsub_d rd rs1 rs2 (f7.extractLsb' 2 5))
  | 0b1001111#7, 0b01#2 => rowRm f3 (.fnmadd_d rd rs1 rs2 (f7.extractLsb' 2 5))
  | _, _ => .error .noRow

/-- Opcode 1010011: the other F and D instructions, by 31:25 and then by 24:20 or 14:12 (R122). -/
def decodeFp (f7 : BitVec 7) (rs2 rs1 : Reg) (f3 : BitVec 3) (rd : Reg) : Except DecodeError Instr :=
  match f7 with
  | 0b0000000#7 => rowRm f3 (.fadd_s rd rs1 rs2)
  | 0b0000001#7 => rowRm f3 (.fadd_d rd rs1 rs2)
  | 0b0000100#7 => rowRm f3 (.fsub_s rd rs1 rs2)
  | 0b0000101#7 => rowRm f3 (.fsub_d rd rs1 rs2)
  | 0b0001000#7 => rowRm f3 (.fmul_s rd rs1 rs2)
  | 0b0001001#7 => rowRm f3 (.fmul_d rd rs1 rs2)
  | 0b0001100#7 => rowRm f3 (.fdiv_s rd rs1 rs2)
  | 0b0001101#7 => rowRm f3 (.fdiv_d rd rs1 rs2)
  | 0b0010000#7 =>
    match f3 with
    | 0b000#3 => .ok (.fsgnj_s rd rs1 rs2)
    | 0b001#3 => .ok (.fsgnjn_s rd rs1 rs2)
    | 0b010#3 => .ok (.fsgnjx_s rd rs1 rs2)
    | _ => .error .noRow
  | 0b0010001#7 =>
    match f3 with
    | 0b000#3 => .ok (.fsgnj_d rd rs1 rs2)
    | 0b001#3 => .ok (.fsgnjn_d rd rs1 rs2)
    | 0b010#3 => .ok (.fsgnjx_d rd rs1 rs2)
    | _ => .error .noRow
  | 0b0010100#7 =>
    match f3 with
    | 0b000#3 => .ok (.fmin_s rd rs1 rs2)
    | 0b001#3 => .ok (.fmax_s rd rs1 rs2)
    | _ => .error .noRow
  | 0b0010101#7 =>
    match f3 with
    | 0b000#3 => .ok (.fmin_d rd rs1 rs2)
    | 0b001#3 => .ok (.fmax_d rd rs1 rs2)
    | _ => .error .noRow
  | 0b0100000#7 =>
    match rs2 with
    | 0b00001#5 => rowRm f3 (.fcvt_s_d rd rs1)
    | _ => .error .noRow
  | 0b0100001#7 =>
    match rs2 with
    | 0b00000#5 => rowRm f3 (.fcvt_d_s rd rs1)
    | _ => .error .noRow
  | 0b0101100#7 =>
    match rs2 with
    | 0b00000#5 => rowRm f3 (.fsqrt_s rd rs1)
    | _ => .error .noRow
  | 0b0101101#7 =>
    match rs2 with
    | 0b00000#5 => rowRm f3 (.fsqrt_d rd rs1)
    | _ => .error .noRow
  | 0b1010000#7 =>
    match f3 with
    | 0b000#3 => .ok (.fle_s rd rs1 rs2)
    | 0b001#3 => .ok (.flt_s rd rs1 rs2)
    | 0b010#3 => .ok (.feq_s rd rs1 rs2)
    | _ => .error .noRow
  | 0b1010001#7 =>
    match f3 with
    | 0b000#3 => .ok (.fle_d rd rs1 rs2)
    | 0b001#3 => .ok (.flt_d rd rs1 rs2)
    | 0b010#3 => .ok (.feq_d rd rs1 rs2)
    | _ => .error .noRow
  | 0b1100000#7 =>
    match rs2 with
    | 0b00000#5 => rowRm f3 (.fcvt_w_s rd rs1)
    | 0b00001#5 => rowRm f3 (.fcvt_wu_s rd rs1)
    | 0b00010#5 => rowRm f3 (.fcvt_l_s rd rs1)
    | 0b00011#5 => rowRm f3 (.fcvt_lu_s rd rs1)
    | _ => .error .noRow
  | 0b1100001#7 =>
    match rs2 with
    | 0b00000#5 => rowRm f3 (.fcvt_w_d rd rs1)
    | 0b00001#5 => rowRm f3 (.fcvt_wu_d rd rs1)
    | 0b00010#5 => rowRm f3 (.fcvt_l_d rd rs1)
    | 0b00011#5 => rowRm f3 (.fcvt_lu_d rd rs1)
    | _ => .error .noRow
  | 0b1101000#7 =>
    match rs2 with
    | 0b00000#5 => rowRm f3 (.fcvt_s_w rd rs1)
    | 0b00001#5 => rowRm f3 (.fcvt_s_wu rd rs1)
    | 0b00010#5 => rowRm f3 (.fcvt_s_l rd rs1)
    | 0b00011#5 => rowRm f3 (.fcvt_s_lu rd rs1)
    | _ => .error .noRow
  | 0b1101001#7 =>
    match rs2 with
    | 0b00000#5 => rowRm f3 (.fcvt_d_w rd rs1)
    | 0b00001#5 => rowRm f3 (.fcvt_d_wu rd rs1)
    | 0b00010#5 => rowRm f3 (.fcvt_d_l rd rs1)
    | 0b00011#5 => rowRm f3 (.fcvt_d_lu rd rs1)
    | _ => .error .noRow
  | 0b1110000#7 =>
    match rs2, f3 with
    | 0b00000#5, 0b000#3 => .ok (.fmv_x_w rd rs1)
    | 0b00000#5, 0b001#3 => .ok (.fclass_s rd rs1)
    | _, _ => .error .noRow
  | 0b1110001#7 =>
    match rs2, f3 with
    | 0b00000#5, 0b000#3 => .ok (.fmv_x_d rd rs1)
    | 0b00000#5, 0b001#3 => .ok (.fclass_d rd rs1)
    | _, _ => .error .noRow
  | 0b1111000#7 =>
    match rs2, f3 with
    | 0b00000#5, 0b000#3 => .ok (.fmv_w_x rd rs1)
    | _, _ => .error .noRow
  | 0b1111001#7 =>
    match rs2, f3 with
    | 0b00000#5, 0b000#3 => .ok (.fmv_d_x rd rs1)
    | _, _ => .error .noRow
  | _ => .error .noRow

/-- Opcode 1100011: branches. -/
def decodeBranch (f3 : BitVec 3) (rs1 rs2 : Reg) (off : BitVec 12) : Except DecodeError Instr :=
  match f3 with
  | 0b000#3 => .ok (.beq rs1 rs2 off)
  | 0b001#3 => .ok (.bne rs1 rs2 off)
  | 0b100#3 => .ok (.blt rs1 rs2 off)
  | 0b101#3 => .ok (.bge rs1 rs2 off)
  | 0b110#3 => .ok (.bltu rs1 rs2 off)
  | 0b111#3 => .ok (.bgeu rs1 rs2 off)
  | _ => .error .noRow

/-- Opcode 1110011 with 14:12 = 000: environment calls and the privileged instructions, whose other fields
are fixed (R121, R143, 30_encoding.md). -/
def decodePriv (f7 : BitVec 7) (rs2 rs1 : BitVec 5) (rd : BitVec 5) : Except DecodeError Instr :=
  match f7 with
  | 0b0000000#7 =>
    match rs2 with
    | 0b00000#5 => rowIf (rs1 == 0#5 && rd == 0#5) .noRow .ecall
    | 0b00001#5 => rowIf (rs1 == 0#5 && rd == 0#5) .noRow .ebreak
    | _ => .error .noRow
  | 0b0011000#7 => rowIf (rs2 == 0b00010#5 && rs1 == 0#5 && rd == 0#5) .noRow .mret
  | 0b0001000#7 =>
    match rs2 with
    | 0b00010#5 => rowIf (rs1 == 0#5 && rd == 0#5) .noRow .sret
    | 0b00101#5 => rowIf (rs1 == 0#5 && rd == 0#5) .noRow .wfi
    | _ => .error .noRow
  | 0b0001001#7 => rowIf (rd == 0#5) .noRow (.sfence_vma rs1 rs2)
  | _ => .error .noRow

/-- Opcode 1110011: the system instructions (R121, 30_encoding.md). -/
def decodeSystem (f7 : BitVec 7) (rs2 rs1 : BitVec 5) (f3 : BitVec 3) (rd : Reg) :
    Except DecodeError Instr :=
  match f3 with
  | 0b000#3 => decodePriv f7 rs2 rs1 rd
  | 0b001#3 => .ok (.csrrw rd (joinI f7 rs2) rs1)
  | 0b010#3 => .ok (.csrrs rd (joinI f7 rs2) rs1)
  | 0b011#3 => .ok (.csrrc rd (joinI f7 rs2) rs1)
  | 0b101#3 => .ok (.csrrwi rd (joinI f7 rs2) rs1)
  | 0b110#3 => .ok (.csrrsi rd (joinI f7 rs2) rs1)
  | 0b111#3 => .ok (.csrrci rd (joinI f7 rs2) rs1)
  | _ => .error .noRow

/-- The row of R133 that a 32-bit word's fields match, by its major opcode (R132, 30_encoding.md). -/
def decodeFields32 (xl : Xlen) (f7 : BitVec 7) (rs2 rs1 : BitVec 5) (f3 : BitVec 3) (rd : BitVec 5)
    (op : BitVec 7) : Except DecodeError Instr :=
  match op with
  | 0b0000011#7 => decodeLoad f3 rd rs1 (joinI f7 rs2)
  | 0b0000111#7 => decodeFpLoad f3 rd rs1 (joinI f7 rs2)
  | 0b0001111#7 => decodeFence f7 rs2 rs1 f3 rd
  | 0b0010011#7 => decodeOpImm xl f7 rs2 rs1 f3 rd
  | 0b0010111#7 => .ok (.auipc rd (joinU f7 rs2 rs1 f3))
  | 0b0011011#7 => decodeOpImm32 f7 rs2 rs1 f3 rd
  | 0b0100011#7 => decodeStore f3 rs1 rs2 (joinI f7 rd)
  | 0b0100111#7 => decodeFpStore f3 rs1 rs2 (joinI f7 rd)
  | 0b0101111#7 => decodeAmo f7 rs2 rs1 f3 rd
  | 0b0110011#7 => decodeOp f7 rs2 rs1 f3 rd
  | 0b0110111#7 => .ok (.lui rd (joinU f7 rs2 rs1 f3))
  | 0b0111011#7 => decodeOp32 f7 rs2 rs1 f3 rd
  | 0b1000011#7 => decodeFma 0b1000011#7 f7 rs2 rs1 f3 rd
  | 0b1000111#7 => decodeFma 0b1000111#7 f7 rs2 rs1 f3 rd
  | 0b1001011#7 => decodeFma 0b1001011#7 f7 rs2 rs1 f3 rd
  | 0b1001111#7 => decodeFma 0b1001111#7 f7 rs2 rs1 f3 rd
  | 0b1010011#7 => decodeFp f7 rs2 rs1 f3 rd
  | 0b1100011#7 => decodeBranch f3 rs1 rs2 (joinB f7 rd)
  | 0b1100111#7 => rowIf (f3 == 0b000#3) .noRow (.jalr rd rs1 (joinI f7 rs2))
  | 0b1101111#7 => .ok (.jal rd (jumpOff (joinU f7 rs2 rs1 f3)))
  | 0b1110011#7 => decodeSystem f7 rs2 rs1 f3 rd
  | _ => .error .noRow

/-- Quadrant 00 of the 16-bit encodings (R134, 30_encoding.md). -/
def decodeC0 (xl : Xlen) (f3 : BitVec 3) (b12 : BitVec 1) (r1 r2 : BitVec 5) : Except DecodeError Instr :=
  let rdLow := r2.extractLsb' 0 3
  let rs1Low := r1.extractLsb' 0 3
  let bits5 := b12 ++ r1.extractLsb' 3 2 ++ r2.extractLsb' 3 2
  match f3 with
  | 0b000#3 =>
    rowIf (ciwImm (b12 ++ r1 ++ r2.extractLsb' 3 2) != 0#8) .invalidCompressed
      (.c_addi4spn rdLow (ciwImm (b12 ++ r1 ++ r2.extractLsb' 3 2)))
  | 0b001#3 => .ok (.c_fld rdLow rs1Low (cldImm bits5))
  | 0b010#3 => .ok (.c_lw rdLow rs1Low (clwImm bits5))
  | 0b011#3 =>
    match xl with
    | .rv32 => .ok (.c_flw rdLow rs1Low (clwImm bits5))
    | .rv64 => .ok (.c_ld rdLow rs1Low (cldImm bits5))
  | 0b101#3 => .ok (.c_fsd rs1Low rdLow (cldImm bits5))
  | 0b110#3 => .ok (.c_sw rs1Low rdLow (clwImm bits5))
  | 0b111#3 =>
    match xl with
    | .rv32 => .ok (.c_fsw rs1Low rdLow (clwImm bits5))
    | .rv64 => .ok (.c_sd rs1Low rdLow (cldImm bits5))
  | _ => .error .noRow

/-- Quadrant 01 with 15:13 = 100: the register arithmetic of the compressed set (R134). -/
def decodeC1Arith (xl : Xlen) (b12 : BitVec 1) (r1 r2 : BitVec 5) : Except DecodeError Instr :=
  let rd := r1.extractLsb' 0 3
  let rs2 := r2.extractLsb' 0 3
  match r1.extractLsb' 3 2 with
  | 0b00#2 => rowIf (xl == .rv64 || b12 == 0#1) .shamt (.c_srli rd (b12 ++ r2))
  | 0b01#2 => rowIf (xl == .rv64 || b12 == 0#1) .shamt (.c_srai rd (b12 ++ r2))
  | 0b10#2 => .ok (.c_andi rd (b12 ++ r2))
  | _ =>
    match b12, r2.extractLsb' 3 2 with
    | 0b0#1, 0b00#2 => .ok (.c_sub rd rs2)
    | 0b0#1, 0b01#2 => .ok (.c_xor rd rs2)
    | 0b0#1, 0b10#2 => .ok (.c_or rd rs2)
    | 0b0#1, _ => .ok (.c_and rd rs2)
    | _, 0b00#2 => .ok (.c_subw rd rs2)
    | _, 0b01#2 => .ok (.c_addw rd rs2)
    | _, _ => .error .noRow

/-- Quadrant 01 of the 16-bit encodings (R134, 30_encoding.md). -/
def decodeC1 (xl : Xlen) (f3 : BitVec 3) (b12 : BitVec 1) (r1 r2 : BitVec 5) : Except DecodeError Instr :=
  match f3 with
  | 0b000#3 => .ok (.c_addi r1 (b12 ++ r2))
  | 0b001#3 =>
    match xl with
    | .rv32 => .ok (.c_jal (cjOff (b12 ++ r1 ++ r2)))
    | .rv64 => rowIf (r1 != 0#5) .invalidCompressed (.c_addiw r1 (b12 ++ r2))
  | 0b010#3 => .ok (.c_li r1 (b12 ++ r2))
  | 0b011#3 =>
    if r1 = 2#5 then
      rowIf (c16Imm (b12 ++ r2) != 0#6) .invalidCompressed (.c_addi16sp (c16Imm (b12 ++ r2)))
    else rowIf (b12 ++ r2 != 0#6) .invalidCompressed (.c_lui r1 (b12 ++ r2))
  | 0b100#3 => decodeC1Arith xl b12 r1 r2
  | 0b101#3 => .ok (.c_j (cjOff (b12 ++ r1 ++ r2)))
  | 0b110#3 => .ok (.c_beqz (r1.extractLsb' 0 3) (cbOff (b12 ++ r1.extractLsb' 3 2 ++ r2)))
  | _ => .ok (.c_bnez (r1.extractLsb' 0 3) (cbOff (b12 ++ r1.extractLsb' 3 2 ++ r2)))

/-- Quadrant 10 of the 16-bit encodings (R134), the overlapping rows told apart by R145. -/
def decodeC2 (xl : Xlen) (f3 : BitVec 3) (b12 : BitVec 1) (r1 r2 : BitVec 5) : Except DecodeError Instr :=
  match f3 with
  | 0b000#3 => rowIf (xl == .rv64 || b12 == 0#1) .shamt (.c_slli r1 (b12 ++ r2))
  | 0b001#3 => .ok (.c_fldsp r1 (cdspImm (b12 ++ r2)))
  | 0b010#3 => rowIf (r1 != 0#5) .invalidCompressed (.c_lwsp r1 (cwspImm (b12 ++ r2)))
  | 0b011#3 =>
    match xl with
    | .rv32 => .ok (.c_flwsp r1 (cwspImm (b12 ++ r2)))
    | .rv64 => rowIf (r1 != 0#5) .invalidCompressed (.c_ldsp r1 (cdspImm (b12 ++ r2)))
  | 0b100#3 =>
    if b12 = 0#1 then
      if r2 = 0#5 then rowIf (r1 != 0#5) .invalidCompressed (.c_jr r1) else .ok (.c_mv r1 r2)
    else if r2 = 0#5 then
      if r1 = 0#5 then .ok .c_ebreak else .ok (.c_jalr r1)
    else rowIf (r1 != 0#5) .invalidCompressed (.c_add r1 r2)
  | 0b101#3 => .ok (.c_fsdsp r2 (cdspImm (b12 ++ r1)))
  | 0b110#3 => .ok (.c_swsp r2 (cwspImm (b12 ++ r1)))
  | _ =>
    match xl with
    | .rv32 => .ok (.c_fswsp r2 (cwspImm (b12 ++ r1)))
    | .rv64 => .ok (.c_sdsp r2 (cdspImm (b12 ++ r1)))

/-- The row of R134 that a halfword's fields match; bits 1:0 = 11 start a longer word (R110). -/
def decodeFields16 (xl : Xlen) (f3 : BitVec 3) (b12 : BitVec 1) (r1 r2 : BitVec 5) (op : BitVec 2) :
    Except DecodeError Instr :=
  match op with
  | 0b00#2 => decodeC0 xl f3 b12 r1 r2
  | 0b01#2 => decodeC1 xl f3 b12 r1 r2
  | 0b10#2 => decodeC2 xl f3 b12 r1 r2
  | _ => .error .noRow

/-- The word of an instruction as it is fetched: one parcel or two (R81, R82, 20_memory.md). -/
inductive Code where
  | half (h : BitVec 16)
  | word (w : BitVec 32)
  deriving DecidableEq, Repr

/-- The number of bytes of a code word (`ilen`, R81, 20_memory.md). -/
def Code.len : Code → Nat
  | .half _ => 2
  | .word _ => 4

/-- The code word zero-extended, as an exception carries it (R142, 30_encoding.md; R581). -/
def Code.toWord : Code → Word
  | .half h => h.setWidth 64
  | .word w => w.setWidth 64

/-- The bytes of a code word, lowest address first: little-endian, low parcel first (R82, 20_memory.md). -/
def Code.bytes : Code → List Byte
  | .half h => [h.extractLsb' 0 8, h.extractLsb' 8 8]
  | .word w => [w.extractLsb' 0 8, w.extractLsb' 8 8, w.extractLsb' 16 8, w.extractLsb' 24 8]

/-- The row a code word matches, without regard to availability. -/
def decodeRow (xl : Xlen) : Code → Except DecodeError Instr
  | .half h => decodeFields16 xl (halfF3 h) (halfB12 h) (halfR1 h) (halfR2 h) (halfOp h)
  | .word w =>
    decodeFields32 xl (fieldF7 w) (fieldRs2 w) (fieldRs1 w) (fieldF3 w) (fieldRd w) (fieldOp w)

/-- Decoding a fetched code word (R140, 30_encoding.md). -/
def decodeCode (cfg : Config) (code : Code) : Except DecodeError Instr :=
  match decodeRow cfg.xlen code with
  | .ok i => rowIf (i.available cfg) .unavailable i
  | .error e => .error e

/-- Decoding the instruction at the head of a list of bytes: it, and the bytes after it (R81, 20_memory.md;
R110, R140, 30_encoding.md). -/
def decode (cfg : Config) : List Byte → Except DecodeError (Instr × List Byte)
  | b0 :: b1 :: rest =>
    if b0.extractLsb' 0 2 = 0b11#2 then
      match rest with
      | b2 :: b3 :: rest' => (decodeCode cfg (.word (b3 ++ b2 ++ b1 ++ b0))).map (·, rest')
      | _ => .error .truncated
    else (decodeCode cfg (.half (b1 ++ b0))).map (·, rest)
  | _ => .error .truncated

/-- The instruction the decoder of the reset parameters reads from an instruction whose bits are `w`, bit 0
the least significant bit of the first parcel, bits from `nbits` up zero. The five RV32-only compressed
rows share their words with RV64 rows (R451, 47_rvc.md), and the reset parameters have XLEN = 64 (log 22). -/
def decodeTableWord (nbits w : Nat) : Option Instr :=
  match decode Config.reset (Code.word (BitVec.ofNat 32 (w % 2 ^ nbits))).bytes with
  | .ok (i, _) => some i
  | .error _ => none

/-! ### The encoder -/

/-- R format (R111). -/
def rCode (op : BitVec 7) (f3 : BitVec 3) (f7 : BitVec 7) (rd rs1 rs2 : BitVec 5) : Code :=
  .word (pack32 f7 rs2 rs1 f3 rd op)
/-- I format (R112). -/
def iCode (op : BitVec 7) (f3 : BitVec 3) (rd rs1 : BitVec 5) (imm : BitVec 12) : Code :=
  .word (pack32 (immHi imm) (immLo imm) rs1 f3 rd op)
/-- S format (R113). -/
def sCode (op : BitVec 7) (f3 : BitVec 3) (rs1 rs2 : BitVec 5) (off : BitVec 12) : Code :=
  .word (pack32 (immHi off) rs2 rs1 f3 (immLo off) op)
/-- B format (R114). -/
def bCode (f3 : BitVec 3) (rs1 rs2 : BitVec 5) (off : BitVec 12) : Code :=
  .word (pack32 (branchHi off) rs2 rs1 f3 (branchLo off) 0b1100011#7)
/-- U format (R115). -/
def uCode (op : BitVec 7) (rd : BitVec 5) (imm : BitVec 20) : Code :=
  .word (pack32 (imm.extractLsb' 13 7) (imm.extractLsb' 8 5) (imm.extractLsb' 3 5)
    (imm.extractLsb' 0 3) rd op)
/-- The shift variant of the I format (R118). -/
def shCode (f3 : BitVec 3) (code : BitVec 6) (rd rs1 : BitVec 5) (shamt : BitVec 6) : Code :=
  .word (pack32 (code ++ shamt.extractLsb' 5 1) (shamt.extractLsb' 0 5) rs1 f3 rd 0b0010011#7)
/-- The R4 format (R117). -/
def r4Code (op : BitVec 7) (fmt : BitVec 2) (rd rs1 rs2 rs3 : BitVec 5) (rm : Rounding) : Code :=
  .word (pack32 (rs3 ++ fmt) rs2 rs1 rm.bits rd op)
/-- The A-extension variant of the R format (R119). -/
def amoCode (f3 : BitVec 3) (code : BitVec 5) (rd rs1 rs2 : BitVec 5) (aq rl : BitVec 1) : Code :=
  .word (pack32 (code ++ aq ++ rl) rs2 rs1 f3 rd 0b0101111#7)
/-- The floating-point variant of the R format (R122). -/
def fpCode (f7 : BitVec 7) (f3 : BitVec 3) (rd rs1 rs2 : BitVec 5) : Code :=
  .word (pack32 f7 rs2 rs1 f3 rd 0b1010011#7)
/-- The CL and CS formats (R129): five immediate bits in 12:10 and 6:5. -/
def clCode (f3 : BitVec 3) (v : BitVec 5) (rs1 r : CReg) : Code :=
  .half (pack16 f3 (v.extractLsb' 4 1) (v.extractLsb' 2 2 ++ rs1) (v.extractLsb' 0 2 ++ r) 0b00#2)
/-- The CI format (R129): six immediate bits in 12 and 6:2. -/
def ciCode (f3 : BitVec 3) (op : BitVec 2) (v : BitVec 6) (rd : Reg) : Code :=
  .half (pack16 f3 (v.extractLsb' 5 1) rd (v.extractLsb' 0 5) op)
/-- The CSS format (R129): six immediate bits in 12:7. -/
def cssCode (f3 : BitVec 3) (v : BitVec 6) (rs2 : Reg) : Code :=
  .half (pack16 f3 (v.extractLsb' 5 1) (v.extractLsb' 0 5) rs2 0b10#2)
/-- The CB format of the shifts and `c.andi` (R129). -/
def cbiCode (f2 : BitVec 2) (v : BitVec 6) (rd : CReg) : Code :=
  .half (pack16 0b100#3 (v.extractLsb' 5 1) (f2 ++ rd) (v.extractLsb' 0 5) 0b01#2)
/-- The CB format of the branches (R129). -/
def cbCode (f3 : BitVec 3) (rs1 : CReg) (off : BitVec 8) : Code :=
  .half (pack16 f3 ((cbField off).extractLsb' 7 1) ((cbField off).extractLsb' 5 2 ++ rs1)
    ((cbField off).extractLsb' 0 5) 0b01#2)
/-- The CA format (R129). -/
def caCode (b12 : BitVec 1) (f2 : BitVec 2) (rd rs2 : CReg) : Code :=
  .half (pack16 0b100#3 b12 (0b11#2 ++ rd) (f2 ++ rs2) 0b01#2)
/-- The CJ format (R129). -/
def cjCode (f3 : BitVec 3) (off : BitVec 11) : Code :=
  .half (pack16 f3 ((cjField off).extractLsb' 10 1) ((cjField off).extractLsb' 5 5)
    ((cjField off).extractLsb' 0 5) 0b01#2)
/-- The CR format (R129). -/
def crCode (b12 : BitVec 1) (r1 r2 : Reg) : Code :=
  .half (pack16 0b100#3 b12 r1 r2 0b10#2)

/-- One instruction of the expansion of `li` (R513, 48_pseudo.md). -/
inductive LiStep where
  /-- `addi rd, x0, imm` -/
  | small (imm : BitVec 12)
  /-- `lui rd, imm` -/
  | upper (imm : BitVec 20)
  /-- `addi rd, rd, imm` -/
  | add (imm : BitVec 12)
  /-- `addiw rd, rd, imm` -/
  | addw (imm : BitVec 12)
  /-- `slli rd, rd, 12` -/
  | shift
  deriving DecidableEq, Repr

/-- The expansion of `li` for a constant that fits in 32 signed bits (R513, 48_pseudo.md). The second
instruction is `addiw` on RV64 and `addi` on RV32. -/
def liSteps32 (xl : Xlen) (c : BitVec 32) : List LiStep :=
  let lo := c.extractLsb' 0 12
  let hi := (c - lo.signExtend 32).extractLsb' 12 20
  if lo.signExtend 32 = c then [.small lo]
  else if lo = 0#12 then [.upper hi]
  else match xl with
    | .rv32 => [.upper hi, .add lo]
    | .rv64 => [.upper hi, .addw lo]

/-- The expansion of `li` on RV64: a constant too wide for 32 bits is its upper part, built the same way,
then `slli` and `addi` for the lower twelve bits (R513, 48_pseudo.md; log 23). Three such rounds leave at
most 28 bits, so the fuel never runs out. -/
def liSteps64 (fuel : Nat) (c : BitVec 64) : List LiStep :=
  match fuel with
  | 0 => liSteps32 .rv64 (c.setWidth 32)
  | fuel + 1 =>
    if (c.setWidth 32).signExtend 64 = c then liSteps32 .rv64 (c.setWidth 32)
    else
      let lo := c.extractLsb' 0 12
      liSteps64 fuel ((c - lo.signExtend 64).sshiftRight 12) ++
        (if lo = 0#12 then [.shift] else [.shift, .add lo])

/-- The expansion of `li rd, imm` (R513, R548, 48_pseudo.md). -/
def liSteps (xl : Xlen) (imm : Word) : List LiStep :=
  match xl with
  | .rv32 => liSteps32 .rv32 (imm.setWidth 32)
  | .rv64 => liSteps64 3 imm

/-- The machine instruction that a step of `li` stands for. -/
def LiStep.instr (rd : Reg) : LiStep → Instr
  | .small imm => .addi rd 0#5 imm
  | .upper imm => .lui rd imm
  | .add imm => .addi rd rd imm
  | .addw imm => .addiw rd rd imm
  | .shift => .slli rd rd 12#6

/-- The code word that a step of `li` stands for. -/
def LiStep.code (rd : Reg) : LiStep → Code
  | .small imm => iCode 0b0010011#7 0b000#3 rd 0#5 imm
  | .upper imm => uCode 0b0110111#7 rd imm
  | .add imm => iCode 0b0010011#7 0b000#3 rd rd imm
  | .addw imm => iCode 0b0011011#7 0b000#3 rd rd imm
  | .shift => shCode 0b001#3 0b000000#6 rd rd 12#6

/-- `offsetLo` of a distance (R512, 48_pseudo.md; R155, 30_encoding.md). -/
def pcrelLo (delta : Word) : BitVec 12 := delta.extractLsb' 0 12

/-- `offsetHi` of a distance (R512, 48_pseudo.md; R155, 30_encoding.md). -/
def pcrelHi (delta : Word) : BitVec 20 := (delta - (pcrelLo delta).signExtend 64).extractLsb' 12 20

/-- The code word of a machine instruction (R133, R134, 30_encoding.md); that of a pseudoinstruction is the
first word of its expansion (R510, 48_pseudo.md), which for `li` depends on XLEN. -/
def Instr.code (xl : Xlen) : Instr → Code
  | .add rd rs1 rs2 => rCode 0b0110011#7 0b000#3 0b0000000#7 rd rs1 rs2
  | .sub rd rs1 rs2 => rCode 0b0110011#7 0b000#3 0b0100000#7 rd rs1 rs2
  | .sll rd rs1 rs2 => rCode 0b0110011#7 0b001#3 0b0000000#7 rd rs1 rs2
  | .slt rd rs1 rs2 => rCode 0b0110011#7 0b010#3 0b0000000#7 rd rs1 rs2
  | .sltu rd rs1 rs2 => rCode 0b0110011#7 0b011#3 0b0000000#7 rd rs1 rs2
  | .xor rd rs1 rs2 => rCode 0b0110011#7 0b100#3 0b0000000#7 rd rs1 rs2
  | .srl rd rs1 rs2 => rCode 0b0110011#7 0b101#3 0b0000000#7 rd rs1 rs2
  | .sra rd rs1 rs2 => rCode 0b0110011#7 0b101#3 0b0100000#7 rd rs1 rs2
  | .or rd rs1 rs2 => rCode 0b0110011#7 0b110#3 0b0000000#7 rd rs1 rs2
  | .and rd rs1 rs2 => rCode 0b0110011#7 0b111#3 0b0000000#7 rd rs1 rs2
  | .addi rd rs1 imm => iCode 0b0010011#7 0b000#3 rd rs1 imm
  | .slti rd rs1 imm => iCode 0b0010011#7 0b010#3 rd rs1 imm
  | .sltiu rd rs1 imm => iCode 0b0010011#7 0b011#3 rd rs1 imm
  | .xori rd rs1 imm => iCode 0b0010011#7 0b100#3 rd rs1 imm
  | .ori rd rs1 imm => iCode 0b0010011#7 0b110#3 rd rs1 imm
  | .andi rd rs1 imm => iCode 0b0010011#7 0b111#3 rd rs1 imm
  | .slli rd rs1 shamt => shCode 0b001#3 0b000000#6 rd rs1 shamt
  | .srli rd rs1 shamt => shCode 0b101#3 0b000000#6 rd rs1 shamt
  | .srai rd rs1 shamt => shCode 0b101#3 0b010000#6 rd rs1 shamt
  | .lui rd imm => uCode 0b0110111#7 rd imm
  | .auipc rd imm => uCode 0b0010111#7 rd imm
  | .addw rd rs1 rs2 => rCode 0b0111011#7 0b000#3 0b0000000#7 rd rs1 rs2
  | .subw rd rs1 rs2 => rCode 0b0111011#7 0b000#3 0b0100000#7 rd rs1 rs2
  | .sllw rd rs1 rs2 => rCode 0b0111011#7 0b001#3 0b0000000#7 rd rs1 rs2
  | .srlw rd rs1 rs2 => rCode 0b0111011#7 0b101#3 0b0000000#7 rd rs1 rs2
  | .sraw rd rs1 rs2 => rCode 0b0111011#7 0b101#3 0b0100000#7 rd rs1 rs2
  | .addiw rd rs1 imm => iCode 0b0011011#7 0b000#3 rd rs1 imm
  | .slliw rd rs1 shamt => rCode 0b0011011#7 0b001#3 0b0000000#7 rd rs1 shamt
  | .srliw rd rs1 shamt => rCode 0b0011011#7 0b101#3 0b0000000#7 rd rs1 shamt
  | .sraiw rd rs1 shamt => rCode 0b0011011#7 0b101#3 0b0100000#7 rd rs1 shamt
  | .beq rs1 rs2 off => bCode 0b000#3 rs1 rs2 off
  | .bne rs1 rs2 off => bCode 0b001#3 rs1 rs2 off
  | .blt rs1 rs2 off => bCode 0b100#3 rs1 rs2 off
  | .bge rs1 rs2 off => bCode 0b101#3 rs1 rs2 off
  | .bltu rs1 rs2 off => bCode 0b110#3 rs1 rs2 off
  | .bgeu rs1 rs2 off => bCode 0b111#3 rs1 rs2 off
  | .jal rd off => uCode 0b1101111#7 rd (jumpField off)
  | .jalr rd rs1 off => iCode 0b1100111#7 0b000#3 rd rs1 off
  | .lb rd rs1 off => iCode 0b0000011#7 0b000#3 rd rs1 off
  | .lh rd rs1 off => iCode 0b0000011#7 0b001#3 rd rs1 off
  | .lw rd rs1 off => iCode 0b0000011#7 0b010#3 rd rs1 off
  | .ld rd rs1 off => iCode 0b0000011#7 0b011#3 rd rs1 off
  | .lbu rd rs1 off => iCode 0b0000011#7 0b100#3 rd rs1 off
  | .lhu rd rs1 off => iCode 0b0000011#7 0b101#3 rd rs1 off
  | .lwu rd rs1 off => iCode 0b0000011#7 0b110#3 rd rs1 off
  | .sb rs1 rs2 off => sCode 0b0100011#7 0b000#3 rs1 rs2 off
  | .sh rs1 rs2 off => sCode 0b0100011#7 0b001#3 rs1 rs2 off
  | .sw rs1 rs2 off => sCode 0b0100011#7 0b010#3 rs1 rs2 off
  | .sd rs1 rs2 off => sCode 0b0100011#7 0b011#3 rs1 rs2 off
  | .fence pred succ => rCode 0b0001111#7 0b000#3 (0b0000#4 ++ pred.extractLsb' 1 3) 0#5 0#5 (pred.extractLsb' 0 1 ++ succ)
  | .fence_i => rCode 0b0001111#7 0b001#3 0b0000000#7 0#5 0#5 0b00000#5
  | .csrrw rd csr rs1 => iCode 0b1110011#7 0b001#3 rd rs1 csr
  | .csrrs rd csr rs1 => iCode 0b1110011#7 0b010#3 rd rs1 csr
  | .csrrc rd csr rs1 => iCode 0b1110011#7 0b011#3 rd rs1 csr
  | .csrrwi rd csr zimm => iCode 0b1110011#7 0b101#3 rd zimm csr
  | .csrrsi rd csr zimm => iCode 0b1110011#7 0b110#3 rd zimm csr
  | .csrrci rd csr zimm => iCode 0b1110011#7 0b111#3 rd zimm csr
  | .ecall => rCode 0b1110011#7 0b000#3 0b0000000#7 0#5 0#5 0b00000#5
  | .ebreak => rCode 0b1110011#7 0b000#3 0b0000000#7 0#5 0#5 0b00001#5
  | .mret => rCode 0b1110011#7 0b000#3 0b0011000#7 0#5 0#5 0b00010#5
  | .sret => rCode 0b1110011#7 0b000#3 0b0001000#7 0#5 0#5 0b00010#5
  | .wfi => rCode 0b1110011#7 0b000#3 0b0001000#7 0#5 0#5 0b00101#5
  | .sfence_vma rs1 rs2 => rCode 0b1110011#7 0b000#3 0b0001001#7 0#5 rs1 rs2
  | .mul rd rs1 rs2 => rCode 0b0110011#7 0b000#3 0b0000001#7 rd rs1 rs2
  | .mulh rd rs1 rs2 => rCode 0b0110011#7 0b001#3 0b0000001#7 rd rs1 rs2
  | .mulhsu rd rs1 rs2 => rCode 0b0110011#7 0b010#3 0b0000001#7 rd rs1 rs2
  | .mulhu rd rs1 rs2 => rCode 0b0110011#7 0b011#3 0b0000001#7 rd rs1 rs2
  | .div rd rs1 rs2 => rCode 0b0110011#7 0b100#3 0b0000001#7 rd rs1 rs2
  | .divu rd rs1 rs2 => rCode 0b0110011#7 0b101#3 0b0000001#7 rd rs1 rs2
  | .rem rd rs1 rs2 => rCode 0b0110011#7 0b110#3 0b0000001#7 rd rs1 rs2
  | .remu rd rs1 rs2 => rCode 0b0110011#7 0b111#3 0b0000001#7 rd rs1 rs2
  | .mulw rd rs1 rs2 => rCode 0b0111011#7 0b000#3 0b0000001#7 rd rs1 rs2
  | .divw rd rs1 rs2 => rCode 0b0111011#7 0b100#3 0b0000001#7 rd rs1 rs2
  | .divuw rd rs1 rs2 => rCode 0b0111011#7 0b101#3 0b0000001#7 rd rs1 rs2
  | .remw rd rs1 rs2 => rCode 0b0111011#7 0b110#3 0b0000001#7 rd rs1 rs2
  | .remuw rd rs1 rs2 => rCode 0b0111011#7 0b111#3 0b0000001#7 rd rs1 rs2
  | .lr_w rd rs1 aq rl => amoCode 0b010#3 0b00010#5 rd rs1 0#5 aq rl
  | .lr_d rd rs1 aq rl => amoCode 0b011#3 0b00010#5 rd rs1 0#5 aq rl
  | .sc_w rd rs1 rs2 aq rl => amoCode 0b010#3 0b00011#5 rd rs1 rs2 aq rl
  | .sc_d rd rs1 rs2 aq rl => amoCode 0b011#3 0b00011#5 rd rs1 rs2 aq rl
  | .amoswap_w rd rs1 rs2 aq rl => amoCode 0b010#3 0b00001#5 rd rs1 rs2 aq rl
  | .amoswap_d rd rs1 rs2 aq rl => amoCode 0b011#3 0b00001#5 rd rs1 rs2 aq rl
  | .amoadd_w rd rs1 rs2 aq rl => amoCode 0b010#3 0b00000#5 rd rs1 rs2 aq rl
  | .amoadd_d rd rs1 rs2 aq rl => amoCode 0b011#3 0b00000#5 rd rs1 rs2 aq rl
  | .amoxor_w rd rs1 rs2 aq rl => amoCode 0b010#3 0b00100#5 rd rs1 rs2 aq rl
  | .amoxor_d rd rs1 rs2 aq rl => amoCode 0b011#3 0b00100#5 rd rs1 rs2 aq rl
  | .amoand_w rd rs1 rs2 aq rl => amoCode 0b010#3 0b01100#5 rd rs1 rs2 aq rl
  | .amoand_d rd rs1 rs2 aq rl => amoCode 0b011#3 0b01100#5 rd rs1 rs2 aq rl
  | .amoor_w rd rs1 rs2 aq rl => amoCode 0b010#3 0b01000#5 rd rs1 rs2 aq rl
  | .amoor_d rd rs1 rs2 aq rl => amoCode 0b011#3 0b01000#5 rd rs1 rs2 aq rl
  | .amomin_w rd rs1 rs2 aq rl => amoCode 0b010#3 0b10000#5 rd rs1 rs2 aq rl
  | .amomin_d rd rs1 rs2 aq rl => amoCode 0b011#3 0b10000#5 rd rs1 rs2 aq rl
  | .amomax_w rd rs1 rs2 aq rl => amoCode 0b010#3 0b10100#5 rd rs1 rs2 aq rl
  | .amomax_d rd rs1 rs2 aq rl => amoCode 0b011#3 0b10100#5 rd rs1 rs2 aq rl
  | .amominu_w rd rs1 rs2 aq rl => amoCode 0b010#3 0b11000#5 rd rs1 rs2 aq rl
  | .amominu_d rd rs1 rs2 aq rl => amoCode 0b011#3 0b11000#5 rd rs1 rs2 aq rl
  | .amomaxu_w rd rs1 rs2 aq rl => amoCode 0b010#3 0b11100#5 rd rs1 rs2 aq rl
  | .amomaxu_d rd rs1 rs2 aq rl => amoCode 0b011#3 0b11100#5 rd rs1 rs2 aq rl
  | .flw rd rs1 off => iCode 0b0000111#7 0b010#3 rd rs1 off
  | .fsw rs1 rs2 off => sCode 0b0100111#7 0b010#3 rs1 rs2 off
  | .fmadd_s rd rs1 rs2 rs3 rm => r4Code 0b1000011#7 0b00#2 rd rs1 rs2 rs3 rm
  | .fmsub_s rd rs1 rs2 rs3 rm => r4Code 0b1000111#7 0b00#2 rd rs1 rs2 rs3 rm
  | .fnmsub_s rd rs1 rs2 rs3 rm => r4Code 0b1001011#7 0b00#2 rd rs1 rs2 rs3 rm
  | .fnmadd_s rd rs1 rs2 rs3 rm => r4Code 0b1001111#7 0b00#2 rd rs1 rs2 rs3 rm
  | .fadd_s rd rs1 rs2 rm => fpCode 0b0000000#7 rm.bits rd rs1 rs2
  | .fsub_s rd rs1 rs2 rm => fpCode 0b0000100#7 rm.bits rd rs1 rs2
  | .fmul_s rd rs1 rs2 rm => fpCode 0b0001000#7 rm.bits rd rs1 rs2
  | .fdiv_s rd rs1 rs2 rm => fpCode 0b0001100#7 rm.bits rd rs1 rs2
  | .fsqrt_s rd rs1 rm => fpCode 0b0101100#7 rm.bits rd rs1 0b00000#5
  | .fsgnj_s rd rs1 rs2 => fpCode 0b0010000#7 0b000#3 rd rs1 rs2
  | .fsgnjn_s rd rs1 rs2 => fpCode 0b0010000#7 0b001#3 rd rs1 rs2
  | .fsgnjx_s rd rs1 rs2 => fpCode 0b0010000#7 0b010#3 rd rs1 rs2
  | .fmin_s rd rs1 rs2 => fpCode 0b0010100#7 0b000#3 rd rs1 rs2
  | .fmax_s rd rs1 rs2 => fpCode 0b0010100#7 0b001#3 rd rs1 rs2
  | .feq_s rd rs1 rs2 => fpCode 0b1010000#7 0b010#3 rd rs1 rs2
  | .flt_s rd rs1 rs2 => fpCode 0b1010000#7 0b001#3 rd rs1 rs2
  | .fle_s rd rs1 rs2 => fpCode 0b1010000#7 0b000#3 rd rs1 rs2
  | .fclass_s rd rs1 => fpCode 0b1110000#7 0b001#3 rd rs1 0b00000#5
  | .fcvt_w_s rd rs1 rm => fpCode 0b1100000#7 rm.bits rd rs1 0b00000#5
  | .fcvt_s_w rd rs1 rm => fpCode 0b1101000#7 rm.bits rd rs1 0b00000#5
  | .fcvt_wu_s rd rs1 rm => fpCode 0b1100000#7 rm.bits rd rs1 0b00001#5
  | .fcvt_s_wu rd rs1 rm => fpCode 0b1101000#7 rm.bits rd rs1 0b00001#5
  | .fcvt_l_s rd rs1 rm => fpCode 0b1100000#7 rm.bits rd rs1 0b00010#5
  | .fcvt_s_l rd rs1 rm => fpCode 0b1101000#7 rm.bits rd rs1 0b00010#5
  | .fcvt_lu_s rd rs1 rm => fpCode 0b1100000#7 rm.bits rd rs1 0b00011#5
  | .fcvt_s_lu rd rs1 rm => fpCode 0b1101000#7 rm.bits rd rs1 0b00011#5
  | .fmv_x_w rd rs1 => fpCode 0b1110000#7 0b000#3 rd rs1 0b00000#5
  | .fmv_w_x rd rs1 => fpCode 0b1111000#7 0b000#3 rd rs1 0b00000#5
  | .fld rd rs1 off => iCode 0b0000111#7 0b011#3 rd rs1 off
  | .fsd rs1 rs2 off => sCode 0b0100111#7 0b011#3 rs1 rs2 off
  | .fmadd_d rd rs1 rs2 rs3 rm => r4Code 0b1000011#7 0b01#2 rd rs1 rs2 rs3 rm
  | .fmsub_d rd rs1 rs2 rs3 rm => r4Code 0b1000111#7 0b01#2 rd rs1 rs2 rs3 rm
  | .fnmsub_d rd rs1 rs2 rs3 rm => r4Code 0b1001011#7 0b01#2 rd rs1 rs2 rs3 rm
  | .fnmadd_d rd rs1 rs2 rs3 rm => r4Code 0b1001111#7 0b01#2 rd rs1 rs2 rs3 rm
  | .fadd_d rd rs1 rs2 rm => fpCode 0b0000001#7 rm.bits rd rs1 rs2
  | .fsub_d rd rs1 rs2 rm => fpCode 0b0000101#7 rm.bits rd rs1 rs2
  | .fmul_d rd rs1 rs2 rm => fpCode 0b0001001#7 rm.bits rd rs1 rs2
  | .fdiv_d rd rs1 rs2 rm => fpCode 0b0001101#7 rm.bits rd rs1 rs2
  | .fsqrt_d rd rs1 rm => fpCode 0b0101101#7 rm.bits rd rs1 0b00000#5
  | .fsgnj_d rd rs1 rs2 => fpCode 0b0010001#7 0b000#3 rd rs1 rs2
  | .fsgnjn_d rd rs1 rs2 => fpCode 0b0010001#7 0b001#3 rd rs1 rs2
  | .fsgnjx_d rd rs1 rs2 => fpCode 0b0010001#7 0b010#3 rd rs1 rs2
  | .fmin_d rd rs1 rs2 => fpCode 0b0010101#7 0b000#3 rd rs1 rs2
  | .fmax_d rd rs1 rs2 => fpCode 0b0010101#7 0b001#3 rd rs1 rs2
  | .feq_d rd rs1 rs2 => fpCode 0b1010001#7 0b010#3 rd rs1 rs2
  | .flt_d rd rs1 rs2 => fpCode 0b1010001#7 0b001#3 rd rs1 rs2
  | .fle_d rd rs1 rs2 => fpCode 0b1010001#7 0b000#3 rd rs1 rs2
  | .fclass_d rd rs1 => fpCode 0b1110001#7 0b001#3 rd rs1 0b00000#5
  | .fcvt_w_d rd rs1 rm => fpCode 0b1100001#7 rm.bits rd rs1 0b00000#5
  | .fcvt_d_w rd rs1 rm => fpCode 0b1101001#7 rm.bits rd rs1 0b00000#5
  | .fcvt_wu_d rd rs1 rm => fpCode 0b1100001#7 rm.bits rd rs1 0b00001#5
  | .fcvt_d_wu rd rs1 rm => fpCode 0b1101001#7 rm.bits rd rs1 0b00001#5
  | .fcvt_l_d rd rs1 rm => fpCode 0b1100001#7 rm.bits rd rs1 0b00010#5
  | .fcvt_d_l rd rs1 rm => fpCode 0b1101001#7 rm.bits rd rs1 0b00010#5
  | .fcvt_lu_d rd rs1 rm => fpCode 0b1100001#7 rm.bits rd rs1 0b00011#5
  | .fcvt_d_lu rd rs1 rm => fpCode 0b1101001#7 rm.bits rd rs1 0b00011#5
  | .fcvt_s_d rd rs1 rm => fpCode 0b0100000#7 rm.bits rd rs1 0b00001#5
  | .fcvt_d_s rd rs1 rm => fpCode 0b0100001#7 rm.bits rd rs1 0b00000#5
  | .fmv_x_d rd rs1 => fpCode 0b1110001#7 0b000#3 rd rs1 0b00000#5
  | .fmv_d_x rd rs1 => fpCode 0b1111001#7 0b000#3 rd rs1 0b00000#5
  | .c_addi4spn rd uimm => (fun v => .half (pack16 0b000#3 (v.extractLsb' 7 1) (v.extractLsb' 2 5) (v.extractLsb' 0 2 ++ rd) 0b00#2)) (ciwField uimm)
  | .c_fld rd rs1 uimm => clCode 0b001#3 (cldField uimm) rs1 rd
  | .c_lw rd rs1 uimm => clCode 0b010#3 (clwField uimm) rs1 rd
  | .c_flw rd rs1 uimm => clCode 0b011#3 (clwField uimm) rs1 rd
  | .c_ld rd rs1 uimm => clCode 0b011#3 (cldField uimm) rs1 rd
  | .c_fsd rs1 rs2 uimm => clCode 0b101#3 (cldField uimm) rs1 rs2
  | .c_sw rs1 rs2 uimm => clCode 0b110#3 (clwField uimm) rs1 rs2
  | .c_fsw rs1 rs2 uimm => clCode 0b111#3 (clwField uimm) rs1 rs2
  | .c_sd rs1 rs2 uimm => clCode 0b111#3 (cldField uimm) rs1 rs2
  | .c_addi rd imm => ciCode 0b000#3 0b01#2 imm rd
  | .c_jal off => cjCode 0b001#3 off
  | .c_addiw rd imm => ciCode 0b001#3 0b01#2 imm rd
  | .c_li rd imm => ciCode 0b010#3 0b01#2 imm rd
  | .c_addi16sp imm => ciCode 0b011#3 0b01#2 (c16Field imm) 2#5
  | .c_lui rd imm => ciCode 0b011#3 0b01#2 imm rd
  | .c_srli rd uimm => cbiCode 0b00#2 uimm rd
  | .c_srai rd uimm => cbiCode 0b01#2 uimm rd
  | .c_andi rd imm => cbiCode 0b10#2 imm rd
  | .c_sub rd rs2 => caCode 0b0#1 0b00#2 rd rs2
  | .c_xor rd rs2 => caCode 0b0#1 0b01#2 rd rs2
  | .c_or rd rs2 => caCode 0b0#1 0b10#2 rd rs2
  | .c_and rd rs2 => caCode 0b0#1 0b11#2 rd rs2
  | .c_subw rd rs2 => caCode 0b1#1 0b00#2 rd rs2
  | .c_addw rd rs2 => caCode 0b1#1 0b01#2 rd rs2
  | .c_j off => cjCode 0b101#3 off
  | .c_beqz rs1 off => cbCode 0b110#3 rs1 off
  | .c_bnez rs1 off => cbCode 0b111#3 rs1 off
  | .c_slli rd uimm => ciCode 0b000#3 0b10#2 uimm rd
  | .c_fldsp rd uimm => ciCode 0b001#3 0b10#2 (cdspField uimm) rd
  | .c_lwsp rd uimm => ciCode 0b010#3 0b10#2 (cwspField uimm) rd
  | .c_flwsp rd uimm => ciCode 0b011#3 0b10#2 (cwspField uimm) rd
  | .c_ldsp rd uimm => ciCode 0b011#3 0b10#2 (cdspField uimm) rd
  | .c_jr rs1 => crCode 0#1 rs1 0#5
  | .c_mv rd rs2 => crCode 0#1 rd rs2
  | .c_ebreak => crCode 1#1 0#5 0#5
  | .c_jalr rs1 => crCode 1#1 rs1 0#5
  | .c_add rd rs2 => crCode 1#1 rd rs2
  | .c_fsdsp rs2 uimm => cssCode 0b101#3 (cdspField uimm) rs2
  | .c_swsp rs2 uimm => cssCode 0b110#3 (cwspField uimm) rs2
  | .c_fswsp rs2 uimm => cssCode 0b111#3 (cwspField uimm) rs2
  | .c_sdsp rs2 uimm => cssCode 0b111#3 (cdspField uimm) rs2
  | .beqz rs1 off => bCode 0b000#3 rs1 0#5 off
  | .bgez rs1 off => bCode 0b101#3 rs1 0#5 off
  | .bgt rs1 rs2 off => bCode 0b100#3 rs2 rs1 off
  | .bgtu rs1 rs2 off => bCode 0b110#3 rs2 rs1 off
  | .bgtz rs2 off => bCode 0b100#3 0#5 rs2 off
  | .ble rs1 rs2 off => bCode 0b101#3 rs2 rs1 off
  | .bleu rs1 rs2 off => bCode 0b111#3 rs2 rs1 off
  | .blez rs2 off => bCode 0b101#3 0#5 rs2 off
  | .bltz rs1 off => bCode 0b100#3 rs1 0#5 off
  | .bnez rs1 off => bCode 0b001#3 rs1 0#5 off
  | .call rd hi _ => uCode 0b0010111#7 rd hi
  | .csrc csr rs1 => iCode 0b1110011#7 0b011#3 0#5 rs1 csr
  | .csrci csr zimm => iCode 0b1110011#7 0b111#3 0#5 zimm csr
  | .csrr rd csr => iCode 0b1110011#7 0b010#3 rd 0#5 csr
  | .csrs csr rs1 => iCode 0b1110011#7 0b010#3 0#5 rs1 csr
  | .csrsi csr zimm => iCode 0b1110011#7 0b110#3 0#5 zimm csr
  | .csrw csr rs1 => iCode 0b1110011#7 0b001#3 0#5 rs1 csr
  | .csrwi csr zimm => iCode 0b1110011#7 0b101#3 0#5 zimm csr
  | .fabs_d rd rs1 => fpCode 0b0010001#7 0b010#3 rd rs1 rs1
  | .fabs_s rd rs1 => fpCode 0b0010000#7 0b010#3 rd rs1 rs1
  | .fmv_d rd rs1 => fpCode 0b0010001#7 0b000#3 rd rs1 rs1
  | .fmv_s rd rs1 => fpCode 0b0010000#7 0b000#3 rd rs1 rs1
  | .fneg_d rd rs1 => fpCode 0b0010001#7 0b001#3 rd rs1 rs1
  | .fneg_s rd rs1 => fpCode 0b0010000#7 0b001#3 rd rs1 rs1
  | .frcsr rd => iCode 0b1110011#7 0b010#3 rd 0#5 0x003#12
  | .frflags rd => iCode 0b1110011#7 0b010#3 rd 0#5 0x001#12
  | .frrm rd => iCode 0b1110011#7 0b010#3 rd 0#5 0x002#12
  | .fscsr rd rs1 => iCode 0b1110011#7 0b001#3 rd rs1 0x003#12
  | .fsflags rd rs1 => iCode 0b1110011#7 0b001#3 rd rs1 0x001#12
  | .fsrm rd rs1 => iCode 0b1110011#7 0b001#3 rd rs1 0x002#12
  | .j off => uCode 0b1101111#7 0#5 (jumpField off)
  | .jr rs1 => iCode 0b1100111#7 0b000#3 0#5 rs1 0#12
  | .la rd _ hi _ => uCode 0b0010111#7 rd hi
  | .li rd imm =>
    match liSteps xl imm with
    | step :: _ => step.code rd
    | [] => iCode 0b0010011#7 0b000#3 0#5 0#5 0#12
  | .lla rd hi _ => uCode 0b0010111#7 rd hi
  | .mv rd rs1 => iCode 0b0010011#7 0b000#3 rd rs1 0#12
  | .neg rd rs2 => rCode 0b0110011#7 0b000#3 0b0100000#7 rd 0#5 rs2
  | .negw rd rs2 => rCode 0b0111011#7 0b000#3 0b0100000#7 rd 0#5 rs2
  | .nop => iCode 0b0010011#7 0b000#3 0#5 0#5 0#12
  | .not rd rs1 => iCode 0b0010011#7 0b100#3 rd rs1 0xfff#12
  | .rdcycle rd => iCode 0b1110011#7 0b010#3 rd 0#5 0xc00#12
  | .rdcycleh rd => iCode 0b1110011#7 0b010#3 rd 0#5 0xc80#12
  | .rdinstret rd => iCode 0b1110011#7 0b010#3 rd 0#5 0xc02#12
  | .rdinstreth rd => iCode 0b1110011#7 0b010#3 rd 0#5 0xc82#12
  | .rdtime rd => iCode 0b1110011#7 0b010#3 rd 0#5 0xc01#12
  | .rdtimeh rd => iCode 0b1110011#7 0b010#3 rd 0#5 0xc81#12
  | .ret => iCode 0b1100111#7 0b000#3 0#5 1#5 0#12
  | .seqz rd rs1 => iCode 0b0010011#7 0b011#3 rd rs1 1#12
  | .sext_w rd rs1 => iCode 0b0011011#7 0b000#3 rd rs1 0#12
  | .sgtz rd rs2 => rCode 0b0110011#7 0b010#3 0b0000000#7 rd 0#5 rs2
  | .sltz rd rs1 => rCode 0b0110011#7 0b010#3 0b0000000#7 rd rs1 0#5
  | .snez rd rs2 => rCode 0b0110011#7 0b011#3 0b0000000#7 rd 0#5 rs2
  | .tail hi _ => uCode 0b0010111#7 6#5 hi

/-- The machine instructions an instruction stands for: a pseudoinstruction's expansion (R514, 48_pseudo.md);
every constructor not named here is a machine instruction and stands for itself. `la` with `got` set is
the position-independent form, a load from the Global Offset Table (R547, 48_pseudo.md). -/
def Instr.expand (xl : Xlen) : Instr → List Instr
  | .beqz rs1 off => [.beq rs1 0#5 off]
  | .bgez rs1 off => [.bge rs1 0#5 off]
  | .bgt rs1 rs2 off => [.blt rs2 rs1 off]
  | .bgtu rs1 rs2 off => [.bltu rs2 rs1 off]
  | .bgtz rs2 off => [.blt 0#5 rs2 off]
  | .ble rs1 rs2 off => [.bge rs2 rs1 off]
  | .bleu rs1 rs2 off => [.bgeu rs2 rs1 off]
  | .blez rs2 off => [.bge 0#5 rs2 off]
  | .bltz rs1 off => [.blt rs1 0#5 off]
  | .bnez rs1 off => [.bne rs1 0#5 off]
  | .call rd hi lo => [.auipc rd hi, .jalr rd rd lo]
  | .csrc csr rs1 => [.csrrc 0#5 csr rs1]
  | .csrci csr zimm => [.csrrci 0#5 csr zimm]
  | .csrr rd csr => [.csrrs rd csr 0#5]
  | .csrs csr rs1 => [.csrrs 0#5 csr rs1]
  | .csrsi csr zimm => [.csrrsi 0#5 csr zimm]
  | .csrw csr rs1 => [.csrrw 0#5 csr rs1]
  | .csrwi csr zimm => [.csrrwi 0#5 csr zimm]
  | .fabs_d rd rs1 => [.fsgnjx_d rd rs1 rs1]
  | .fabs_s rd rs1 => [.fsgnjx_s rd rs1 rs1]
  | .fmv_d rd rs1 => [.fsgnj_d rd rs1 rs1]
  | .fmv_s rd rs1 => [.fsgnj_s rd rs1 rs1]
  | .fneg_d rd rs1 => [.fsgnjn_d rd rs1 rs1]
  | .fneg_s rd rs1 => [.fsgnjn_s rd rs1 rs1]
  | .frcsr rd => [.csrrs rd 0x003#12 0#5]
  | .frflags rd => [.csrrs rd 0x001#12 0#5]
  | .frrm rd => [.csrrs rd 0x002#12 0#5]
  | .fscsr rd rs1 => [.csrrw rd 0x003#12 rs1]
  | .fsflags rd rs1 => [.csrrw rd 0x001#12 rs1]
  | .fsrm rd rs1 => [.csrrw rd 0x002#12 rs1]
  | .j off => [.jal 0#5 off]
  | .jr rs1 => [.jalr 0#5 rs1 0#12]
  | .la rd got hi lo =>
    if got then
      match xl with
      | .rv32 => [.auipc rd hi, .lw rd rd lo]
      | .rv64 => [.auipc rd hi, .ld rd rd lo]
    else [.auipc rd hi, .addi rd rd lo]
  | .li rd imm => (liSteps xl imm).map (LiStep.instr rd)
  | .lla rd hi lo => [.auipc rd hi, .addi rd rd lo]
  | .mv rd rs1 => [.addi rd rs1 0#12]
  | .neg rd rs2 => [.sub rd 0#5 rs2]
  | .negw rd rs2 => [.subw rd 0#5 rs2]
  | .nop => [.addi 0#5 0#5 0#12]
  | .not rd rs1 => [.xori rd rs1 0xfff#12]
  | .rdcycle rd => [.csrrs rd 0xc00#12 0#5]
  | .rdcycleh rd => [.csrrs rd 0xc80#12 0#5]
  | .rdinstret rd => [.csrrs rd 0xc02#12 0#5]
  | .rdinstreth rd => [.csrrs rd 0xc82#12 0#5]
  | .rdtime rd => [.csrrs rd 0xc01#12 0#5]
  | .rdtimeh rd => [.csrrs rd 0xc81#12 0#5]
  | .ret => [.jalr 0#5 1#5 0#12]
  | .seqz rd rs1 => [.sltiu rd rs1 1#12]
  | .sext_w rd rs1 => [.addiw rd rs1 0#12]
  | .sgtz rd rs2 => [.slt rd 0#5 rs2]
  | .sltz rd rs1 => [.slt rd rs1 0#5]
  | .snez rd rs2 => [.sltu rd 0#5 rs2]
  | .tail hi lo => [.auipc 6#5 hi, .jalr 0#5 6#5 lo]
  | i => [i]

/-- The bytes of an instruction, lowest address first: those of the words of its expansion. -/
def encode (xl : Xlen) (i : Instr) : List Byte :=
  (i.expand xl).flatMap fun j => (j.code xl).bytes

/-- The instruction word that an illegal-instruction exception carries (R581, 60_exceptions.md; log 27). -/
def Instr.word (xl : Xlen) (i : Instr) : Word := (i.code xl).toWord

end Sys2Proof
end

