-- ==== Sys2Proof/Machine/Memory.lean ====
section
/-! DEFINITION. Memory as a list of (address, byte) pairs in one canonical form, so that equal memories are
equal data: addresses strictly rising, and no entry equal to what an unlisted address reads as. -/

namespace Sys2Proof.Machine

open Sys2Proof

/-- Memory: the listed bytes (R53, 10_state.md; R70, 20_memory.md). -/
abbrev Memory := List Host.Cell

/-- What a byte of memory that nothing has written reads as. DESIGN CHOICE (log 9): the spec leaves the
contents of ram outside the image unspecified (R631, 70_reset_and_hazards.md). -/
def Memory.unlisted : Byte := 0#8

/-- The addresses of a list of cells are strictly rising. -/
def Memory.sorted : Memory → Bool
  | [] => true
  | [_] => true
  | a :: b :: rest => decide (a.1 < b.1) && Memory.sorted (b :: rest)

/-- The canonical form of memory. -/
def Memory.wf (m : Memory) : Bool :=
  m.sorted && m.all fun c => c.2 != Memory.unlisted

/-- The entry of an address, if it has one. -/
def Memory.find (m : Memory) (a : Nat) : Option Byte :=
  match m with
  | [] => none
  | c :: rest => if c.1 = a then some c.2 else Memory.find rest a

/-- The byte at an address. -/
def Memory.read (m : Memory) (a : Nat) : Byte := (m.find a).getD Memory.unlisted

/-- The list with the entry of an address replaced or put in its place. -/
def Memory.insert (m : Memory) (a : Nat) (v : Byte) : Memory :=
  match m with
  | [] => [(a, v)]
  | c :: rest =>
    if a < c.1 then (a, v) :: c :: rest
    else if a = c.1 then (a, v) :: rest
    else c :: Memory.insert rest a v

/-- The list without any entry of an address. -/
def Memory.erase (m : Memory) (a : Nat) : Memory :=
  match m with
  | [] => []
  | c :: rest => if c.1 = a then Memory.erase rest a else c :: Memory.erase rest a

/-- Memory with one byte written. Writing what an unlisted address reads as removes the entry. -/
def Memory.write (m : Memory) (a : Nat) (v : Byte) : Memory :=
  if v = Memory.unlisted then m.erase a else m.insert a v

/-- The memory that an image gives: its bytes written one after another, at addresses modulo the size of the
address space (R84, 20_memory.md; R631, 70_reset_and_hazards.md). -/
def Memory.ofImage (size : Nat) (image : List Host.Cell) : Memory :=
  image.foldl (fun m c => m.write (c.1 % size) c.2) []

/-- A byte marked dirty: its address with its value at the last `fence.i`, unless it is dirty already (R95,
20_memory.md; log 18). -/
def Memory.markStale (stale : Memory) (a : Nat) (old : Byte) : Memory :=
  match stale.find a with
  | some _ => stale
  | none => stale.insert a old

end Sys2Proof.Machine
end

