-- ==== Sys2Proof/Machine/Operands.lean ====
section
/-! DEFINITION. The operand forms: values of the register width, immediates, shift amounts, and how an
operation that the spec gives once for both widths is computed at XLEN. A value of the register width is a
64-bit word; for XLEN = 32 its upper half is zero (log 11). -/

namespace Sys2Proof.Machine

open Sys2Proof

/-- The XLEN low bits of a word (R20, R21, 00_scope.md). -/
def truncX (xl : Xlen) (v : Word) : Word :=
  match xl with
  | .rv32 => (v.setWidth 32).setWidth 64
  | .rv64 => v

/-- The bits that `mepc` and `sepc` can hold: bit 0 is 0, and without C bit 1 too (R50, 10_state.md). -/
def maskEpc (cfg : Config) (v : Word) : Word :=
  truncX cfg.xlen (v &&& (if cfg.c then ~~~1#64 else ~~~3#64))

/-- `sext_XLEN` of a value of at most XLEN bits (R21, 00_scope.md). -/
def sextX {n : Nat} (xl : Xlen) (v : BitVec n) : Word := truncX xl (v.signExtend 64)

/-- `zext_XLEN` of a value of at most XLEN bits (R21, 00_scope.md). -/
def zextX {n : Nat} (v : BitVec n) : Word := v.setWidth 64

/-- An operation of two XLEN-bit values with an XLEN-bit result. -/
def liftX (xl : Xlen) (op : (w : Nat) → BitVec w → BitVec w → BitVec w) (a b : Word) : Word :=
  match xl with
  | .rv32 => (op 32 (a.setWidth 32) (b.setWidth 32)).setWidth 64
  | .rv64 => op 64 a b

/-- A comparison of two XLEN-bit values. -/
def testX (xl : Xlen) (op : (w : Nat) → BitVec w → BitVec w → Bool) (a b : Word) : Bool :=
  match xl with
  | .rv32 => op 32 (a.setWidth 32) (b.setWidth 32)
  | .rv64 => op 64 a b

/-- An operation on the low 32 bits of two registers whose 32-bit result is sign-extended: the `*w`
instructions (R160 d, 40_rvi_compute.md). -/
def liftW (op : BitVec 32 → BitVec 32 → BitVec 32) (a b : Word) : Word :=
  (op (a.setWidth 32) (b.setWidth 32)).signExtend 64

/-- The value a comparison writes: 1 or 0, zero-extended (R23, 00_scope.md). -/
def boolWord (b : Bool) : Word := if b then 1#64 else 0#64

/-- The shift amount of a register: five bits, or six when XLEN = 64 (R171, 40_rvi_compute.md). -/
def shamtX (xl : Xlen) (v : Word) : Nat :=
  match xl with
  | .rv32 => (v.extractLsb' 0 5).toNat
  | .rv64 => (v.extractLsb' 0 6).toNat

/-- The shift amount of the word forms: five bits (R174, 40_rvi_compute.md). -/
def shamtW (v : Word) : Nat := (v.extractLsb' 0 5).toNat

/-- Shift left, zeros entering (R23, 00_scope.md). -/
def sllX (xl : Xlen) (a : Word) (n : Nat) : Word := liftX xl (fun _ v _ => v <<< n) a 0#64

/-- Shift right, zeros entering. -/
def srlX (xl : Xlen) (a : Word) (n : Nat) : Word := liftX xl (fun _ v _ => v >>> n) a 0#64

/-- Shift right, copies of the top bit entering. -/
def sraX (xl : Xlen) (a : Word) (n : Nat) : Word := liftX xl (fun _ v _ => v.sshiftRight n) a 0#64

/-- The U immediate: the field over twelve zero bits, sign-extended (R126, 30_encoding.md). -/
def upperImm (xl : Xlen) (imm : BitVec 20) : Word := sextX xl (imm ++ 0#12)

/-- The B offset: offset[12:1] over a zero bit, sign-extended (R125, 30_encoding.md). -/
def branchOff (xl : Xlen) (off : BitVec 12) : Word := sextX xl (off ++ 0#1)

/-- The J offset: offset[20:1] over a zero bit, sign-extended (R127, 30_encoding.md). -/
def jalOff (xl : Xlen) (off : BitVec 20) : Word := sextX xl (off ++ 0#1)

/-- The offset of `c.beqz` and `c.bnez`: offset[8:1] over a zero bit (R131, 30_encoding.md). -/
def cBranchOff (xl : Xlen) (off : BitVec 8) : Word := sextX xl (off ++ 0#1)

/-- The offset of `c.j` and `c.jal`: offset[11:1] over a zero bit (R131, 30_encoding.md). -/
def cJumpOff (xl : Xlen) (off : BitVec 11) : Word := sextX xl (off ++ 0#1)

/-- The stack offset of `c.addi16sp`: imm[9:4] over four zero bits (R131, 30_encoding.md). -/
def c16Off (xl : Xlen) (imm : BitVec 6) : Word := sextX xl (imm ++ 0#4)

/-- The stack offset of `c.addi4spn`: uimm[9:2] over two zero bits (R131, 30_encoding.md). -/
def c4Off (uimm : BitVec 8) : Word := zextX (uimm ++ 0#2)

/-- The offset of `c.lw` and its kin: uimm[6:2] over two zero bits (R131, 30_encoding.md). -/
def cwOff (uimm : BitVec 5) : Word := zextX (uimm ++ 0#2)

/-- The offset of `c.ld` and its kin: uimm[7:3] over three zero bits (R131, 30_encoding.md). -/
def cdOff (uimm : BitVec 5) : Word := zextX (uimm ++ 0#3)

/-- The offset of `c.lwsp`, `c.swsp` and kin: uimm[7:2] over two zero bits (R131, 30_encoding.md). -/
def cwspOff (uimm : BitVec 6) : Word := zextX (uimm ++ 0#2)

/-- The offset of `c.ldsp`, `c.sdsp` and kin: uimm[8:3] over three zero bits (R131, 30_encoding.md). -/
def cdspOff (uimm : BitVec 6) : Word := zextX (uimm ++ 0#3)

/-- The value of `c.lui`: imm[17:12] over twelve zero bits, sign-extended (R131, 30_encoding.md). -/
def cluiImm (xl : Xlen) (imm : BitVec 6) : Word := sextX xl (imm ++ 0#12)

/-! ### Products and quotients (R271, R272, 43_rvm.md) -/

/-- The upper half of the signed product. -/
def mulhOp (w : Nat) (a b : BitVec w) : BitVec w := BitVec.ofInt w (a.toInt * b.toInt / 2 ^ w)

/-- The upper half of the product of a signed and an unsigned value. -/
def mulhsuOp (w : Nat) (a b : BitVec w) : BitVec w := BitVec.ofInt w (a.toInt * (b.toNat : Int) / 2 ^ w)

/-- The upper half of the unsigned product. -/
def mulhuOp (w : Nat) (a b : BitVec w) : BitVec w := BitVec.ofNat w (a.toNat * b.toNat / 2 ^ w)

/-- `div_s`: the quotient toward zero; all ones for a zero divisor; the most negative value divided by -1
wraps to itself (R272, 43_rvm.md). -/
def divOp (w : Nat) (a b : BitVec w) : BitVec w :=
  if b = 0#w then BitVec.allOnes w else BitVec.ofInt w (a.toInt.tdiv b.toInt)

/-- `div_u`: all ones for a zero divisor. -/
def divuOp (w : Nat) (a b : BitVec w) : BitVec w :=
  if b = 0#w then BitVec.allOnes w else BitVec.ofNat w (a.toNat / b.toNat)

/-- `rem_s`: the remainder with the sign of the dividend; the dividend for a zero divisor. -/
def remOp (w : Nat) (a b : BitVec w) : BitVec w :=
  if b = 0#w then a else BitVec.ofInt w (a.toInt.tmod b.toInt)

/-- `rem_u`: the dividend for a zero divisor. -/
def remuOp (w : Nat) (a b : BitVec w) : BitVec w :=
  if b = 0#w then a else BitVec.ofNat w (a.toNat % b.toNat)

/-! ### The functions of the atomic memory operations (R301, 44_rva.md) -/

/-- The smaller value, as two's complement numbers. -/
def minOp (w : Nat) (t src : BitVec w) : BitVec w := if src.slt t then src else t

/-- The larger value, as two's complement numbers. -/
def maxOp (w : Nat) (t src : BitVec w) : BitVec w := if t.slt src then src else t

/-- The smaller value, as unsigned numbers. -/
def minuOp (w : Nat) (t src : BitVec w) : BitVec w := if src.ult t then src else t

/-- The larger value, as unsigned numbers. -/
def maxuOp (w : Nat) (t src : BitVec w) : BitVec w := if t.ult src then src else t

end Sys2Proof.Machine
end

