-- ==== Sys2Proof/Machine/State.lean ====
section
/-! DEFINITION. The state of the machine as plain data, the reasons a step can stop, reset, which builds the initial
state from the arguments of the model, and the state right after it (10_state.md; R630, R631,
70_reset_and_hazards.md). -/

namespace Sys2Proof.Machine

open Sys2Proof

/-- A synchronous exception with the information it carries (R581, 60_exceptions.md). -/
inductive Exc where
  /-- A control transfer or a fetch at a misaligned target. -/
  | instrMisaligned (target : Word)
  /-- A fetch from a byte that is not ram, at the address of the parcel. -/
  | instrAccess (addr : Word)
  /-- A word that is no instruction, or an instruction that may not run, with the word. -/
  | illegal (inst : Word)
  /-- `ebreak` or `c.ebreak`, with its address. -/
  | breakpoint (pc : Word)
  /-- `ecall`, with the mode it ran in. -/
  | envCall (priv : Priv)
  /-- A misaligned load, at the effective address. -/
  | loadMisaligned (addr : Word)
  /-- A load that touches no memory, at the effective address. -/
  | loadAccess (addr : Word)
  /-- A misaligned store or atomic, at the effective address. -/
  | storeMisaligned (addr : Word)
  /-- A store or atomic that touches no memory, at the effective address. -/
  | storeAccess (addr : Word)
  deriving DecidableEq, Repr

/-- Why the machine stops. -/
inductive Fault where
  /-- `Trapped(E, info, pc)`: under TRAP = halt an instruction raised an exception, which ends the run with
  the state unchanged (R591, 60_exceptions.md). Raised by `State.raise` only. Safe: the spec stops here too. -/
  | trapped (e : Exc) (pc : Word)
  deriving DecidableEq, Repr

/-- Why the model declines to say what the hardware does. -/
inductive Refusal where
  /-- An instruction that has no meaning yet, by its mnemonic; raised by `exec`'s refused arms only, of which
  there is none left. Safe: nothing can be proved of it. -/
  | notModelled (mnemonic : String)
  deriving DecidableEq, Repr

/-- A load reservation: its address and its size in bytes (R52, 10_state.md). -/
structure Reservation where
  addr : Word
  size : Nat
  deriving DecidableEq, Repr

/-- The machine-level interrupt bits 11, 7 and 3 of `mip` or `mie` (R601, 60_exceptions.md). -/
structure IrqBits where
  external : Bool
  timer : Bool
  software : Bool
  deriving DecidableEq, Repr

/-- One byte of the output trace: a write to an address of class io (R79, 20_memory.md). -/
structure IoWrite where
  addr : Nat
  value : Byte
  deriving DecidableEq, Repr

/-- The state of the hart, of memory and of the platform's inputs and output. -/
structure State where
  /-- The parameters of the run (R12, 00_scope.md; log 1). -/
  cfg : Config
  /-- The integer registers (R30); slot 0 is never read (R31; log 11). -/
  x : Vector Word 32
  /-- The floating-point registers (R40). -/
  f : Vector Word 32
  /-- The address of the current instruction (R35). -/
  pc : Word
  /-- The privilege mode (R51). -/
  priv : Priv
  /-- `mstatus.MIE` (R48). -/
  mie : Bool
  /-- `mstatus.MPIE` (R48). -/
  mpie : Bool
  /-- `mstatus.MPP` (R48). -/
  mpp : Priv
  /-- `mstatus.SIE` (R49). -/
  sie : Bool
  /-- `mstatus.SPIE` (R49). -/
  spie : Bool
  /-- `mstatus.SPP`: set for supervisor, clear for user (R49). -/
  spp : Bool
  /-- `mepc` (R50). -/
  mepc : Word
  /-- `sepc` (R50). -/
  sepc : Word
  /-- `fcsr[7:0]`: `frm` in 7:5 and `fflags` in 4:0 (R46). -/
  fcsr : BitVec 8
  /-- `mtvec` (R54). -/
  mtvec : Word
  /-- `mcause` (R54). -/
  mcause : Word
  /-- `mtval` (R54). -/
  mtval : Word
  /-- `mscratch` (R54). -/
  mscratch : Word
  /-- The CSR `mie`: bits 11, 7 and 3 (R54; R601, 60_exceptions.md). -/
  irqEnable : IrqBits
  /-- The CSR `mip`: bits 11, 7 and 3 (R54; R601, 60_exceptions.md). -/
  irqPending : IrqBits
  /-- The load reservation (R52). -/
  reservation : Option Reservation
  /-- Memory (R53, R70). -/
  mem : Memory
  /-- The dirty bytes: address and value at the last `fence.i` (R55; R95, 20_memory.md; log 18). -/
  stale : Memory
  /-- The output trace, oldest first (R79, 20_memory.md; log 15). -/
  ioTrace : List IoWrite
  /-- The hart idles in a `wfi` (R55; R251, 42_system.md; log 17). -/
  idle : Bool
  /-- The pending bits that the platform shows to the coming steps (R601, 60_exceptions.md; log 19). -/
  irqInputs : List IrqBits
  /-- The MODEL's own step counter, which picks fresh free values (log 20). -/
  tick : Nat
  deriving DecidableEq, Repr

/-- What R57 (10_state.md) and R631 (70_reset_and_hazards.md) leave unspecified at reset, one field for each, and
the inputs that the platform will show (R601, 60_exceptions.md). A statement for every `PowerOn` holds whatever a
hart holds when it starts (R58, 10_state.md). -/
structure PowerOn where
  x : Vector Word 32
  f : Vector Word 32
  mpie : Bool
  mpp : Priv
  sie : Bool
  spie : Bool
  spp : Bool
  mepc : Word
  sepc : Word
  fcsr : BitVec 8
  mtvec : Word
  mtval : Word
  mscratch : Word
  irqEnable : IrqBits
  irqInputs : List IrqBits
  deriving DecidableEq, Repr

/-- Reset (R630, R631, 70_reset_and_hazards.md; R57, 10_state.md): the initial state, built from the arguments of the
model, which are the parameters and the image, and from what the spec leaves unspecified, within the bounds it
gives: MPP is an implemented mode, and `mepc` and `sepc` have their low bits clear. -/
def State.initial (cfg : Config) (image : List Host.Cell) (u : PowerOn) : State where
  cfg := cfg
  x := u.x
  f := u.f
  pc := truncX cfg.xlen cfg.resetPc
  priv := .machine
  mie := false
  mpie := u.mpie
  mpp := if cfg.modes.has u.mpp then u.mpp else .machine
  sie := u.sie
  spie := u.spie
  spp := u.spp
  mepc := maskEpc cfg u.mepc
  sepc := maskEpc cfg u.sepc
  fcsr := u.fcsr
  mtvec := u.mtvec
  mcause := 0#64
  mtval := u.mtval
  mscratch := u.mscratch
  irqEnable := u.irqEnable
  irqPending := { external := false, timer := false, software := false }
  reservation := none
  mem := Memory.ofImage (2 ^ cfg.xlen.bits) image
  stale := []
  ioTrace := []
  idle := false
  irqInputs := u.irqInputs
  tick := 0

/-- DESIGN CHOICE (logs 3, 7, 8): what the XLEN-bit registers hold at reset that the spec leaves
unspecified. It is not zero, which R58 (10_state.md) forbids, and a multiple of four. -/
def resetWord : Word := 0xA5A5A5A5A5A5A5A0#64

/-- DESIGN CHOICE (log 4): what the `f` registers hold at reset (R57, R58, 10_state.md). -/
def resetFloat : Word := 0xA5A5A5A5A5A5A5A5#64

/-- DESIGN CHOICE (logs 3 to 8, 19): the values that `State.reset` has where the spec leaves them unspecified. -/
def PowerOn.chosen : PowerOn where
  x := Vector.replicate 32 resetWord
  f := Vector.replicate 32 resetFloat
  mpie := true
  mpp := .machine
  sie := true
  spie := true
  spp := true
  mepc := resetWord
  sepc := resetWord
  fcsr := 0x21#8
  mtvec := resetWord
  mtval := resetWord
  mscratch := resetWord
  irqEnable := { external := true, timer := true, software := true }
  irqInputs := []

/-- The machine right after reset, with the parameters of Config.reset (log 2), an empty image (log 10), and the
values that the log names where the spec leaves them unspecified. -/
def State.reset : State := State.initial Config.reset [] PowerOn.chosen

end Sys2Proof.Machine
end

