-- ==== Sys2Proof/Machine/Ops.lean ====
section
/-! DEFINITION. The named operations over registers, memory and control: every read and write of the state
goes through one of them. Taking an exception is one operation, `State.raise`, and the two returns from one
stand beside it. -/

namespace Sys2Proof.Machine

open Sys2Proof

/-- One step's answer. -/
abbrev Outcome := Host.Outcome State Fault Refusal

/-! ### Registers and the pc -/

/-- `x[r]`: `x[0]` reads zero (R31, 10_state.md). -/
def State.readX (s : State) (r : Reg) : Word :=
  if r = 0#5 then 0#64 else truncX s.cfg.xlen (s.x[r.toNat]'r.isLt)

/-- `x[r] <- v`: a write to `x[0]` is discarded (R31, 10_state.md). -/
def State.setX (s : State) (r : Reg) (v : Word) : State :=
  { s with x := if r = 0#5 then s.x else s.x.set r.toNat (truncX s.cfg.xlen v) r.isLt }

/-- The bits an `f` register can hold: 64 with D and 32 without (R40, 10_state.md; log 11). -/
def truncF (fp : FpExt) (v : Word) : Word :=
  match fp with
  | .fd => v
  | .f => (v.setWidth 32).setWidth 64
  | .none => (v.setWidth 32).setWidth 64

/-- `f[r]` as it is. -/
def State.readF (s : State) (r : Reg) : Word := truncF s.cfg.fp (s.f[r.toNat]'r.isLt)

/-- `f[r] <- v`. -/
def State.setF (s : State) (r : Reg) (v : Word) : State :=
  { s with f := s.f.set r.toNat (truncF s.cfg.fp v) r.isLt }

/-- `box` (R342, 45_rvf.md). -/
def box (fp : FpExt) (v : BitVec 32) : Word :=
  match fp with
  | .fd => 0xFFFFFFFF#32 ++ v
  | .f => v.setWidth 64
  | .none => v.setWidth 64

/-- `unbox` (R342, 45_rvf.md). -/
def unbox (fp : FpExt) (r : Word) : BitVec 32 :=
  match fp with
  | .fd => if r.extractLsb' 32 32 = 0xFFFFFFFF#32 then r.setWidth 32 else 0x7FC00000#32
  | .f => r.setWidth 32
  | .none => r.setWidth 32

/-- A single-precision operand: `unbox(f[r])` (R342, 45_rvf.md). -/
def State.readS (s : State) (r : Reg) : BitVec 32 := unbox s.cfg.fp (s.readF r)

/-- A single-precision result: `f[r] <- box(v)` (R342, 45_rvf.md). -/
def State.setS (s : State) (r : Reg) (v : BitVec 32) : State := s.setF r (box s.cfg.fp v)

/-- `pc <- v` (R35, 10_state.md). -/
def State.setPc (s : State) (v : Word) : State := { s with pc := truncX s.cfg.xlen v }

/-- `pc <- pc + ilen` (R15, 00_scope.md; R36, 10_state.md). -/
def State.advance (s : State) (ilen : Word) : State := s.setPc (s.pc + ilen)

/-- An effective address: a sum modulo 2^XLEN (R71, 20_memory.md). -/
def State.ea (s : State) (base off : Word) : Word := truncX s.cfg.xlen (base + off)

/-! ### Privilege modes -/

/-- The code of a mode (R51, 10_state.md). -/
def privCode : Priv → BitVec 2
  | .user => 0b00#2
  | .supervisor => 0b01#2
  | .machine => 0b11#2

/-- The mode of a code, when the code is a mode's (R51, 10_state.md). -/
def privOfCode (c : BitVec 2) : Option Priv :=
  match c with
  | 0b00#2 => some .user
  | 0b01#2 => some .supervisor
  | 0b11#2 => some .machine
  | _ => none

/-- The modes implemented, as a list. -/
def modeList : Modes → List Priv
  | .m => [.machine]
  | .mu => [.machine, .user]
  | .msu => [.machine, .user, .supervisor]

/-- What MPP holds after a write of a code: the mode, if it is implemented, and otherwise some implemented
mode, a free value (R48, 10_state.md; log 14). -/
def legalMpp (modes : Modes) (tick : Nat) (c : BitVec 2) : Priv :=
  match privOfCode c with
  | some p =>
    if modes.has p then p
    else (modeList modes).getD (Config.freeMpp tick c % (modeList modes).length) .machine
  | none => (modeList modes).getD (Config.freeMpp tick c % (modeList modes).length) .machine

/-! ### Taking an exception and returning from one -/

/-- The cause code of an exception (R582, 60_exceptions.md). -/
def Exc.code : Exc → Nat
  | .instrMisaligned _ => 0
  | .instrAccess _ => 1
  | .illegal _ => 2
  | .breakpoint _ => 3
  | .loadMisaligned _ => 4
  | .loadAccess _ => 5
  | .storeMisaligned _ => 6
  | .storeAccess _ => 7
  | .envCall .user => 8
  | .envCall .supervisor => 9
  | .envCall .machine => 11

/-- The trap value of an exception (R584, 60_exceptions.md). -/
def Exc.info : Exc → Word
  | .instrMisaligned target => target
  | .instrAccess addr => addr
  | .illegal inst => inst
  | .breakpoint pc => pc
  | .envCall _ => 0#64
  | .loadMisaligned addr => addr
  | .loadAccess addr => addr
  | .storeMisaligned addr => addr
  | .storeAccess addr => addr

/-- `{mtvec[XLEN-1:2], 00}` (R592, 60_exceptions.md). -/
def State.trapBase (s : State) : Word := truncX s.cfg.xlen (s.mtvec &&& ~~~3#64)

/-- Trap entry to machine mode: what an exception and an interrupt share (R592, 60_exceptions.md). No register
`x` or `f`, no memory and not the reservation changes. -/
def State.enterTrap (s : State) (cause tval target : Word) : State :=
  { s with
    mepc := maskEpc s.cfg s.pc
    mcause := truncX s.cfg.xlen cause
    mtval := truncX s.cfg.xlen tval
    mpie := s.mie
    mie := false
    mpp := s.priv
    priv := .machine
    pc := truncX s.cfg.xlen target }

/-- `raise E(info)`: under TRAP = machine the trap entry of R592, under TRAP = halt the outcome of R591
(60_exceptions.md). -/
def State.raise (s : State) (e : Exc) : Outcome :=
  match s.cfg.trap with
  | .machine => .next (s.enterTrap (BitVec.ofNat 64 e.code) e.info s.trapBase)
  | .halt => .fault (.trapped e s.pc)

/-- The `mcause` of an interrupt: `2^(XLEN-1) + i` (R592, 60_exceptions.md). -/
def irqCause (xl : Xlen) (i : Nat) : Word := BitVec.ofNat 64 (2 ^ (xl.bits - 1) + i)

/-- Taking interrupt `i`: the same entry, vectored when `mtvec[1:0]` is 01 (R592, 60_exceptions.md; log 25). -/
def State.takeIrq (s : State) (i : Nat) : State :=
  s.enterTrap (irqCause s.cfg.xlen i) 0#64
    (if s.mtvec.extractLsb' 0 2 = 0b01#2 then s.trapBase + BitVec.ofNat 64 (4 * i) else s.trapBase)

/-- The effect of `mret` (R249, 42_system.md). -/
def State.returnM (s : State) : State :=
  { s with
    pc := maskEpc s.cfg s.mepc
    mie := s.mpie
    mpie := true
    mpp := if s.cfg.modes.has .user then .user else s.mpp
    priv := s.mpp }

/-- The effect of `sret` (R250, 42_system.md). -/
def State.returnS (s : State) : State :=
  { s with
    pc := maskEpc s.cfg s.sepc
    sie := s.spie
    spie := true
    spp := false
    priv := if s.spp then .supervisor else .user }

/-! ### Interrupts (R600 to R602, 60_exceptions.md) -/

/-- The pending interrupt of highest priority that `mie` enables: external, software, timer (R602). Under
TRAP = halt there are none (R601). -/
def State.pendingIrq (s : State) : Option Nat :=
  match s.cfg.trap with
  | .halt => none
  | .machine =>
    if s.irqPending.external && s.irqEnable.external then some 11
    else if s.irqPending.software && s.irqEnable.software then some 3
    else if s.irqPending.timer && s.irqEnable.timer then some 7
    else none

/-- Machine-level interrupts are globally enabled below M, or by MIE in M (R602). -/
def State.irqsEnabled (s : State) : Bool := s.priv != .machine || s.mie

/-! ### Memory -/

/-- The class of a byte address: that of the first region that holds it (R84, 20_memory.md). -/
def classIn (map : List Region) (a : Nat) : RegionClass :=
  match map with
  | [] => .none
  | r :: rest => if r.base ≤ a ∧ a < r.base + r.size then r.cls else classIn rest a

/-- MEMMAP (R84, 20_memory.md). -/
def State.classAt (s : State) (a : Nat) : RegionClass := classIn s.cfg.memmap a

/-- The address of byte `i` of an access (R71, 20_memory.md). -/
def byteAddr (xl : Xlen) (addr : Word) (i : Nat) : Nat := (addr.toNat + i) % 2 ^ xl.bits

/-- Whether all of the first `n` bytes of an access have a class that `ok` accepts. -/
def State.allBytes (s : State) (addr : Word) (ok : RegionClass → Bool) (n : Nat) : Bool :=
  (List.range n).all fun i => ok (s.classAt (byteAddr s.cfg.xlen addr i))

/-- Memory or a device: any class but `none` (R76, 20_memory.md). -/
def mapped (c : RegionClass) : Bool := c != .none

/-- Class ram: what fetches and the A extension need (R81, 20_memory.md; R306, 44_rva.md). -/
def isRam (c : RegionClass) : Bool := c == .ram

/-- The exception of a load of `n` bytes, if it raises one: alignment first, then the map (R73, R75, R76,
20_memory.md). -/
def State.loadExc (s : State) (addr : Word) (n : Nat) : Option Exc :=
  if addr.toNat % n ≠ 0 ∧ s.cfg.misaligned = .trap then some (.loadMisaligned addr)
  else if s.allBytes addr mapped n then none
  else some (.loadAccess addr)

/-- The exception of a store of `n` bytes, if it raises one (R74, R75, R76, 20_memory.md). -/
def State.storeExc (s : State) (addr : Word) (n : Nat) : Option Exc :=
  if addr.toNat % n ≠ 0 ∧ s.cfg.misaligned = .trap then some (.storeMisaligned addr)
  else if s.allBytes addr mapped n then none
  else some (.storeAccess addr)

/-- The exception of a load-reserved, if it raises one (R303, R306, 44_rva.md). -/
def State.reserveExc (s : State) (addr : Word) (n : Nat) : Option Exc :=
  if addr.toNat % n ≠ 0 then some (.loadMisaligned addr)
  else if s.allBytes addr isRam n then none
  else some (.loadAccess addr)

/-- The exception of a store-conditional or an AMO, if it raises one (R301, R304, R306, 44_rva.md). -/
def State.atomicExc (s : State) (addr : Word) (n : Nat) : Option Exc :=
  if addr.toNat % n ≠ 0 then some (.storeMisaligned addr)
  else if s.allBytes addr isRam n then none
  else some (.storeAccess addr)

/-- The byte a load sees: memory's, or for a device a draw (R79, R90, 20_memory.md; log 15). -/
def State.loadByte (s : State) (a : Nat) : Byte :=
  match s.classAt a with
  | .io => Config.freeIo s.tick a
  | .ram => s.mem.read a
  | .none => s.mem.read a

/-- The value of `n` bytes, the lowest address least significant (R72, R73, 20_memory.md). -/
def littleEndian (byte : Nat → Byte) : Nat → Nat
  | 0 => 0
  | n + 1 => littleEndian byte n + (byte n).toNat * 2 ^ (8 * n)

/-- `MemRead(addr, n)` after its checks (R73, 20_memory.md). -/
def State.loadBytes (s : State) (addr : Word) (n : Nat) : Nat :=
  littleEndian (fun i => s.loadByte (byteAddr s.cfg.xlen addr i)) n

/-- A store of one byte: to memory, where it marks the byte dirty, or for a device to the output trace (R79,
R95, 20_memory.md; logs 15, 18). -/
def State.storeByte (s : State) (a : Nat) (v : Byte) : State :=
  match s.classAt a with
  | .io => { s with ioTrace := s.ioTrace ++ [{ addr := a, value := v }] }
  | .ram =>
    { s with mem := s.mem.write a v, stale := Memory.markStale s.stale a (s.mem.read a) }
  | .none => s

/-- `MemWrite(addr, n, v)` after its checks, lowest address first (R74, 20_memory.md). -/
def State.storeBytes (s : State) (addr : Word) (v : Word) : Nat → State
  | 0 => s
  | n + 1 =>
    (s.storeBytes addr v n).storeByte (byteAddr s.cfg.xlen addr n) (v.extractLsb' (8 * n) 8)

/-! ### How an instruction ends -/

/-- The end of an instruction that writes `x[rd]`. -/
def State.doneX (s : State) (ilen : Word) (rd : Reg) (v : Word) : Outcome :=
  .next ((s.setX rd v).advance ilen)

/-- A load of `n` bytes whose value goes where `put` puts it (R210, 41_rvi_control_mem.md). -/
def State.load (s : State) (ilen addr : Word) (n : Nat) (put : Nat → State → State) : Outcome :=
  match s.loadExc addr n with
  | some e => s.raise e
  | none => .next ((put (s.loadBytes addr n) s).advance ilen)

/-- A store of the low `n` bytes of a value (R218, 41_rvi_control_mem.md). -/
def State.store (s : State) (ilen addr : Word) (n : Nat) (v : Word) : Outcome :=
  match s.storeExc addr n with
  | some e => s.raise e
  | none => .next ((s.storeBytes addr v n).advance ilen)

/-- A control transfer: without C a target with bit 1 set raises an exception on the jump, and nothing is
written (R83, 20_memory.md). `link` is what else the jump writes. -/
def State.jump (s : State) (target : Word) (link : State → State) : Outcome :=
  if s.cfg.c = false ∧ (truncX s.cfg.xlen target)[1] = true then
    s.raise (.instrMisaligned (truncX s.cfg.xlen target))
  else .next ((link s).setPc target)

/-- A conditional branch (R200, 41_rvi_control_mem.md). -/
def State.branch (s : State) (ilen : Word) (taken : Bool) (off : Word) : Outcome :=
  if taken then s.jump (s.pc + off) id else .next (s.advance ilen)

/-- One instruction after another, as a pseudoinstruction's expansion runs (R510, 48_pseudo.md; log 23). -/
def andThen (o : Outcome) (k : State → Outcome) : Outcome :=
  match o with
  | .next s => k s
  | .fault r => .fault r
  | .refused r => .refused r

end Sys2Proof.Machine
end

