-- ==== Sys2Proof/Machine/Atomic.lean ====
section
/-! DEFINITION. The A extension (R300 to R331, 44_rva.md). The `aq` and `rl` bits select nothing that one hart sees (R302;
R97, 20_memory.md). -/

namespace Sys2Proof.Machine

open Sys2Proof

/-- The addresses of a reservation set, from its first to its last: the aligned blocks of RES_GRANULE bytes that hold
the reserved bytes, by default exactly those bytes (R304, 44_rva.md; log 28). -/
def reservationSet (granule : Option Nat) (r : Reservation) : Nat × Nat :=
  match granule with
  | none => (r.addr.toNat, r.addr.toNat + r.size - 1)
  | some g => (r.addr.toNat / g * g, (r.addr.toNat + r.size - 1) / g * g + g - 1)

/-- `sc_may_succeed`: every byte of the access lies in the reservation set; for another address or width
inside it success is a draw (R304, 44_rva.md; log 16). -/
def State.scMaySucceed (s : State) (addr : Word) (n : Nat) : Bool :=
  match s.reservation with
  | none => false
  | some r =>
    if r.addr = addr ∧ r.size = n then true
    else
      decide ((reservationSet s.cfg.granule r).1 ≤ addr.toNat ∧
        addr.toNat + n - 1 ≤ (reservationSet s.cfg.granule r).2) && Config.freeScInside s.tick

/-- `spurious_failure()` (R304, R305, 44_rva.md; log 16). -/
def State.spurious (s : State) : Bool :=
  match s.cfg.scFail with
  | .may => Config.freeScSpurious s.tick
  | .never => false

/-- Load-reserved (R303, 44_rva.md). -/
def State.loadReserved (s : State) (addr : Word) (n : Nat) (rd : Reg) : Outcome :=
  match s.reserveExc addr n with
  | some e => s.raise e
  | none =>
    .next (({ s with reservation := some { addr := addr, size := n } }.setX rd
      (sextX s.cfg.xlen (BitVec.ofNat (8 * n) (s.loadBytes addr n)))).advance 4#64)

/-- Store-conditional (R304, 44_rva.md): the checks, then the test of the reservation, which ends in every
case. The failure code is 1. -/
def State.storeConditional (s : State) (addr : Word) (n : Nat) (v : Word) (rd : Reg) : Outcome :=
  match s.atomicExc addr n with
  | some e => s.raise e
  | none =>
    if s.scMaySucceed addr n && !s.spurious then
      .next (({ s.storeBytes addr v n with reservation := none }.setX rd 0#64).advance 4#64)
    else .next (({ s with reservation := none }.setX rd 1#64).advance 4#64)

/-- An atomic memory operation on a word (R301, 44_rva.md). -/
def State.amo32 (s : State) (addr src : Word) (rd : Reg) (op : BitVec 32 → BitVec 32 → BitVec 32) : Outcome :=
  match s.atomicExc addr 4 with
  | some e => s.raise e
  | none =>
    let t : BitVec 32 := BitVec.ofNat 32 (s.loadBytes addr 4)
    .next (((s.storeBytes addr ((op t (src.setWidth 32)).setWidth 64) 4).setX rd
      (sextX s.cfg.xlen t)).advance 4#64)

/-- An atomic memory operation on a doubleword (R301, 44_rva.md). -/
def State.amo64 (s : State) (addr src : Word) (rd : Reg) (op : Word → Word → Word) : Outcome :=
  match s.atomicExc addr 8 with
  | some e => s.raise e
  | none =>
    let t : Word := BitVec.ofNat 64 (s.loadBytes addr 8)
    .next (((s.storeBytes addr (op t src) 8).setX rd t).advance 4#64)

/-- `lr.w` (R329, 44_rva.md). -/
def execLrW (rd : Reg) (rs1 : Reg) (_aq : BitVec 1) (_rl : BitVec 1) (s : State) : Outcome :=
  s.loadReserved (s.readX rs1) 4 rd

/-- `lr.d` (R328, 44_rva.md). -/
def execLrD (rd : Reg) (rs1 : Reg) (_aq : BitVec 1) (_rl : BitVec 1) (s : State) : Outcome :=
  s.loadReserved (s.readX rs1) 8 rd

/-- `sc.w` (R331, 44_rva.md). -/
def execScW (rd : Reg) (rs1 : Reg) (rs2 : Reg) (_aq : BitVec 1) (_rl : BitVec 1) (s : State) :
    Outcome :=
  s.storeConditional (s.readX rs1) 4 (s.readX rs2) rd

/-- `sc.d` (R330, 44_rva.md). -/
def execScD (rd : Reg) (rs1 : Reg) (rs2 : Reg) (_aq : BitVec 1) (_rl : BitVec 1) (s : State) :
    Outcome :=
  s.storeConditional (s.readX rs1) 8 (s.readX rs2) rd

/-- `amoswap.w` (R325, 44_rva.md). -/
def execAmoswapW (rd : Reg) (rs1 : Reg) (rs2 : Reg) (_aq : BitVec 1) (_rl : BitVec 1) (s : State) :
    Outcome :=
  s.amo32 (s.readX rs1) (s.readX rs2) rd (fun _ src => src)

/-- `amoswap.d` (R324, 44_rva.md). -/
def execAmoswapD (rd : Reg) (rs1 : Reg) (rs2 : Reg) (_aq : BitVec 1) (_rl : BitVec 1) (s : State) :
    Outcome :=
  s.amo64 (s.readX rs1) (s.readX rs2) rd (fun _ src => src)

/-- `amoadd.w` (R311, 44_rva.md). -/
def execAmoaddW (rd : Reg) (rs1 : Reg) (rs2 : Reg) (_aq : BitVec 1) (_rl : BitVec 1) (s : State) :
    Outcome :=
  s.amo32 (s.readX rs1) (s.readX rs2) rd (fun t src => t + src)

/-- `amoadd.d` (R310, 44_rva.md). -/
def execAmoaddD (rd : Reg) (rs1 : Reg) (rs2 : Reg) (_aq : BitVec 1) (_rl : BitVec 1) (s : State) :
    Outcome :=
  s.amo64 (s.readX rs1) (s.readX rs2) rd (fun t src => t + src)

/-- `amoxor.w` (R327, 44_rva.md). -/
def execAmoxorW (rd : Reg) (rs1 : Reg) (rs2 : Reg) (_aq : BitVec 1) (_rl : BitVec 1) (s : State) :
    Outcome :=
  s.amo32 (s.readX rs1) (s.readX rs2) rd (fun t src => t ^^^ src)

/-- `amoxor.d` (R326, 44_rva.md). -/
def execAmoxorD (rd : Reg) (rs1 : Reg) (rs2 : Reg) (_aq : BitVec 1) (_rl : BitVec 1) (s : State) :
    Outcome :=
  s.amo64 (s.readX rs1) (s.readX rs2) rd (fun t src => t ^^^ src)

/-- `amoand.w` (R313, 44_rva.md). -/
def execAmoandW (rd : Reg) (rs1 : Reg) (rs2 : Reg) (_aq : BitVec 1) (_rl : BitVec 1) (s : State) :
    Outcome :=
  s.amo32 (s.readX rs1) (s.readX rs2) rd (fun t src => t &&& src)

/-- `amoand.d` (R312, 44_rva.md). -/
def execAmoandD (rd : Reg) (rs1 : Reg) (rs2 : Reg) (_aq : BitVec 1) (_rl : BitVec 1) (s : State) :
    Outcome :=
  s.amo64 (s.readX rs1) (s.readX rs2) rd (fun t src => t &&& src)

/-- `amoor.w` (R323, 44_rva.md). -/
def execAmoorW (rd : Reg) (rs1 : Reg) (rs2 : Reg) (_aq : BitVec 1) (_rl : BitVec 1) (s : State) :
    Outcome :=
  s.amo32 (s.readX rs1) (s.readX rs2) rd (fun t src => t ||| src)

/-- `amoor.d` (R322, 44_rva.md). -/
def execAmoorD (rd : Reg) (rs1 : Reg) (rs2 : Reg) (_aq : BitVec 1) (_rl : BitVec 1) (s : State) :
    Outcome :=
  s.amo64 (s.readX rs1) (s.readX rs2) rd (fun t src => t ||| src)

/-- `amomin.w` (R319, 44_rva.md). -/
def execAmominW (rd : Reg) (rs1 : Reg) (rs2 : Reg) (_aq : BitVec 1) (_rl : BitVec 1) (s : State) :
    Outcome :=
  s.amo32 (s.readX rs1) (s.readX rs2) rd (minOp 32)

/-- `amomin.d` (R318, 44_rva.md). -/
def execAmominD (rd : Reg) (rs1 : Reg) (rs2 : Reg) (_aq : BitVec 1) (_rl : BitVec 1) (s : State) :
    Outcome :=
  s.amo64 (s.readX rs1) (s.readX rs2) rd (minOp 64)

/-- `amomax.w` (R315, 44_rva.md). -/
def execAmomaxW (rd : Reg) (rs1 : Reg) (rs2 : Reg) (_aq : BitVec 1) (_rl : BitVec 1) (s : State) :
    Outcome :=
  s.amo32 (s.readX rs1) (s.readX rs2) rd (maxOp 32)

/-- `amomax.d` (R314, 44_rva.md). -/
def execAmomaxD (rd : Reg) (rs1 : Reg) (rs2 : Reg) (_aq : BitVec 1) (_rl : BitVec 1) (s : State) :
    Outcome :=
  s.amo64 (s.readX rs1) (s.readX rs2) rd (maxOp 64)

/-- `amominu.w` (R321, 44_rva.md). -/
def execAmominuW (rd : Reg) (rs1 : Reg) (rs2 : Reg) (_aq : BitVec 1) (_rl : BitVec 1) (s : State) :
    Outcome :=
  s.amo32 (s.readX rs1) (s.readX rs2) rd (minuOp 32)

/-- `amominu.d` (R320, 44_rva.md). -/
def execAmominuD (rd : Reg) (rs1 : Reg) (rs2 : Reg) (_aq : BitVec 1) (_rl : BitVec 1) (s : State) :
    Outcome :=
  s.amo64 (s.readX rs1) (s.readX rs2) rd (minuOp 64)

/-- `amomaxu.w` (R317, 44_rva.md). -/
def execAmomaxuW (rd : Reg) (rs1 : Reg) (rs2 : Reg) (_aq : BitVec 1) (_rl : BitVec 1) (s : State) :
    Outcome :=
  s.amo32 (s.readX rs1) (s.readX rs2) rd (maxuOp 32)

/-- `amomaxu.d` (R316, 44_rva.md). -/
def execAmomaxuD (rd : Reg) (rs1 : Reg) (rs2 : Reg) (_aq : BitVec 1) (_rl : BitVec 1) (s : State) :
    Outcome :=
  s.amo64 (s.readX rs1) (s.readX rs2) rd (maxuOp 64)

end Sys2Proof.Machine
end

