-- ==== Sys2Proof/Machine/Compressed.lean ====
section
/-! DEFINITION. The C extension (R460 to R500, 47_rvc.md): the step of the 32-bit instruction each form expands to, with
length 2 in place of 4 (R452). -/

namespace Sys2Proof.Machine

open Sys2Proof

/-- `c.addi4spn` (R460, 47_rvc.md). -/
def execCAddi4spn (rd : CReg) (uimm : BitVec 8) (s : State) : Outcome :=
  s.doneX 2#64 rd.full (liftX s.cfg.xlen (fun _ a b => a + b) (s.readX 2#5) (c4Off uimm))

/-- `c.fld` (R488, 47_rvc.md). -/
def execCFld (rd : CReg) (rs1 : CReg) (uimm : BitVec 5) (s : State) : Outcome :=
  s.load 2#64 (s.ea (s.readX rs1.full) (cdOff uimm)) 8 fun v t => t.setF rd.full (BitVec.ofNat 64 v)

/-- `c.lw` (R485, 47_rvc.md). -/
def execCLw (rd : CReg) (rs1 : CReg) (uimm : BitVec 5) (s : State) : Outcome :=
  s.load 2#64 (s.ea (s.readX rs1.full) (cwOff uimm)) 4 fun v t => t.setX rd.full (sextX s.cfg.xlen
      (BitVec.ofNat 32 v))

/-- `c.flw` (R487, 47_rvc.md). -/
def execCFlw (rd : CReg) (rs1 : CReg) (uimm : BitVec 5) (s : State) : Outcome :=
  s.load 2#64 (s.ea (s.readX rs1.full) (cwOff uimm)) 4 fun v t => t.setS rd.full (BitVec.ofNat 32 v)

/-- `c.ld` (R486, 47_rvc.md). -/
def execCLd (rd : CReg) (rs1 : CReg) (uimm : BitVec 5) (s : State) : Outcome :=
  s.load 2#64 (s.ea (s.readX rs1.full) (cdOff uimm)) 8 fun v t => t.setX rd.full (BitVec.ofNat 64 v)

/-- `c.fsd` (R492, 47_rvc.md). -/
def execCFsd (rs1 : CReg) (rs2 : CReg) (uimm : BitVec 5) (s : State) : Outcome :=
  s.store 2#64 (s.ea (s.readX rs1.full) (cdOff uimm)) 8 (s.readF rs2.full)

/-- `c.sw` (R489, 47_rvc.md). -/
def execCSw (rs1 : CReg) (rs2 : CReg) (uimm : BitVec 5) (s : State) : Outcome :=
  s.store 2#64 (s.ea (s.readX rs1.full) (cwOff uimm)) 4 (s.readX rs2.full)

/-- `c.fsw` (R491, 47_rvc.md). -/
def execCFsw (rs1 : CReg) (rs2 : CReg) (uimm : BitVec 5) (s : State) : Outcome :=
  s.store 2#64 (s.ea (s.readX rs1.full) (cwOff uimm)) 4 (s.readF rs2.full)

/-- `c.sd` (R490, 47_rvc.md). -/
def execCSd (rs1 : CReg) (rs2 : CReg) (uimm : BitVec 5) (s : State) : Outcome :=
  s.store 2#64 (s.ea (s.readX rs1.full) (cdOff uimm)) 8 (s.readX rs2.full)

/-- `c.addi` (R461, 47_rvc.md). -/
def execCAddi (rd : Reg) (imm : BitVec 6) (s : State) : Outcome :=
  s.doneX 2#64 rd (liftX s.cfg.xlen (fun _ a b => a + b) (s.readX rd) (sextX s.cfg.xlen imm))

/-- `c.jal` (R482, 47_rvc.md). -/
def execCJal (off : BitVec 11) (s : State) : Outcome :=
  s.jump (s.pc + cJumpOff s.cfg.xlen off) fun t => t.setX 1#5 (s.pc + 2#64)

/-- `c.addiw` (R462, 47_rvc.md). -/
def execCAddiw (rd : Reg) (imm : BitVec 6) (s : State) : Outcome :=
  s.doneX 2#64 rd (liftW (fun a b => a + b) (s.readX rd) (imm.signExtend 64))

/-- `c.li` (R464, 47_rvc.md). -/
def execCLi (rd : Reg) (imm : BitVec 6) (s : State) : Outcome :=
  s.doneX 2#64 rd (sextX s.cfg.xlen imm)

/-- `c.addi16sp` (R463, 47_rvc.md). -/
def execCAddi16sp (imm : BitVec 6) (s : State) : Outcome :=
  s.doneX 2#64 2#5 (liftX s.cfg.xlen (fun _ a b => a + b) (s.readX 2#5) (c16Off s.cfg.xlen imm))

/-- `c.lui` (R465, 47_rvc.md). -/
def execCLui (rd : Reg) (imm : BitVec 6) (s : State) : Outcome :=
  s.doneX 2#64 rd (cluiImm s.cfg.xlen imm)

/-- `c.srli` (R467, 47_rvc.md). -/
def execCSrli (rd : CReg) (uimm : BitVec 6) (s : State) : Outcome :=
  s.doneX 2#64 rd.full (srlX s.cfg.xlen (s.readX rd.full) uimm.toNat)

/-- `c.srai` (R468, 47_rvc.md). -/
def execCSrai (rd : CReg) (uimm : BitVec 6) (s : State) : Outcome :=
  s.doneX 2#64 rd.full (sraX s.cfg.xlen (s.readX rd.full) uimm.toNat)

/-- `c.andi` (R469, 47_rvc.md). -/
def execCAndi (rd : CReg) (imm : BitVec 6) (s : State) : Outcome :=
  s.doneX 2#64 rd.full (liftX s.cfg.xlen (fun _ a b => a &&& b) (s.readX rd.full) (sextX s.cfg.xlen
      imm))

/-- `c.sub` (R475, 47_rvc.md). -/
def execCSub (rd : CReg) (rs2 : CReg) (s : State) : Outcome :=
  s.doneX 2#64 rd.full (liftX s.cfg.xlen (fun _ a b => a - b) (s.readX rd.full) (s.readX rs2.full))

/-- `c.xor` (R476, 47_rvc.md). -/
def execCXor (rd : CReg) (rs2 : CReg) (s : State) : Outcome :=
  s.doneX 2#64 rd.full (liftX s.cfg.xlen (fun _ a b => a ^^^ b) (s.readX rd.full) (s.readX
      rs2.full))

/-- `c.or` (R477, 47_rvc.md). -/
def execCOr (rd : CReg) (rs2 : CReg) (s : State) : Outcome :=
  s.doneX 2#64 rd.full (liftX s.cfg.xlen (fun _ a b => a ||| b) (s.readX rd.full) (s.readX
      rs2.full))

/-- `c.and` (R478, 47_rvc.md). -/
def execCAnd (rd : CReg) (rs2 : CReg) (s : State) : Outcome :=
  s.doneX 2#64 rd.full (liftX s.cfg.xlen (fun _ a b => a &&& b) (s.readX rd.full) (s.readX
      rs2.full))

/-- `c.subw` (R479, 47_rvc.md). -/
def execCSubw (rd : CReg) (rs2 : CReg) (s : State) : Outcome :=
  s.doneX 2#64 rd.full (liftW (fun a b => a - b) (s.readX rd.full) (s.readX rs2.full))

/-- `c.addw` (R480, 47_rvc.md). -/
def execCAddw (rd : CReg) (rs2 : CReg) (s : State) : Outcome :=
  s.doneX 2#64 rd.full (liftW (fun a b => a + b) (s.readX rd.full) (s.readX rs2.full))

/-- `c.j` (R481, 47_rvc.md). -/
def execCJ (off : BitVec 11) (s : State) : Outcome :=
  s.jump (s.pc + cJumpOff s.cfg.xlen off) id

/-- `c.beqz` (R483, 47_rvc.md). -/
def execCBeqz (rs1 : CReg) (off : BitVec 8) (s : State) : Outcome :=
  s.branch 2#64 (testX s.cfg.xlen (fun _ a b => a == b) (s.readX rs1.full) 0#64) (cBranchOff
      s.cfg.xlen off)

/-- `c.bnez` (R484, 47_rvc.md). -/
def execCBnez (rs1 : CReg) (off : BitVec 8) (s : State) : Outcome :=
  s.branch 2#64 (testX s.cfg.xlen (fun _ a b => a != b) (s.readX rs1.full) 0#64) (cBranchOff
      s.cfg.xlen off)

/-- `c.slli` (R466, 47_rvc.md). -/
def execCSlli (rd : Reg) (uimm : BitVec 6) (s : State) : Outcome :=
  s.doneX 2#64 rd (sllX s.cfg.xlen (s.readX rd) uimm.toNat)

/-- `c.fldsp` (R496, 47_rvc.md). -/
def execCFldsp (rd : Reg) (uimm : BitVec 6) (s : State) : Outcome :=
  s.load 2#64 (s.ea (s.readX 2#5) (cdspOff uimm)) 8 fun v t => t.setF rd (BitVec.ofNat 64 v)

/-- `c.lwsp` (R493, 47_rvc.md). -/
def execCLwsp (rd : Reg) (uimm : BitVec 6) (s : State) : Outcome :=
  s.load 2#64 (s.ea (s.readX 2#5) (cwspOff uimm)) 4 fun v t => t.setX rd (sextX s.cfg.xlen
      (BitVec.ofNat 32 v))

/-- `c.flwsp` (R495, 47_rvc.md). -/
def execCFlwsp (rd : Reg) (uimm : BitVec 6) (s : State) : Outcome :=
  s.load 2#64 (s.ea (s.readX 2#5) (cwspOff uimm)) 4 fun v t => t.setS rd (BitVec.ofNat 32 v)

/-- `c.ldsp` (R494, 47_rvc.md). -/
def execCLdsp (rd : Reg) (uimm : BitVec 6) (s : State) : Outcome :=
  s.load 2#64 (s.ea (s.readX 2#5) (cdspOff uimm)) 8 fun v t => t.setX rd (BitVec.ofNat 64 v)

/-- `c.jr` (R472, 47_rvc.md). -/
def execCJr (rs1 : Reg) (s : State) : Outcome :=
  s.jump (s.readX rs1 &&& ~~~1#64) id

/-- `c.mv` (R470, 47_rvc.md). -/
def execCMv (rd : Reg) (rs2 : Reg) (s : State) : Outcome :=
  s.doneX 2#64 rd (s.readX rs2)

/-- `c.ebreak` (R473, 47_rvc.md). -/
def execCEbreak (s : State) : Outcome :=
  s.raise (.breakpoint s.pc)

/-- `c.jalr` (R474, 47_rvc.md). -/
def execCJalr (rs1 : Reg) (s : State) : Outcome :=
  s.jump (s.readX rs1 &&& ~~~1#64) fun t => t.setX 1#5 (s.pc + 2#64)

/-- `c.add` (R471, 47_rvc.md). -/
def execCAdd (rd : Reg) (rs2 : Reg) (s : State) : Outcome :=
  s.doneX 2#64 rd (liftX s.cfg.xlen (fun _ a b => a + b) (s.readX rd) (s.readX rs2))

/-- `c.fsdsp` (R500, 47_rvc.md). -/
def execCFsdsp (rs2 : Reg) (uimm : BitVec 6) (s : State) : Outcome :=
  s.store 2#64 (s.ea (s.readX 2#5) (cdspOff uimm)) 8 (s.readF rs2)

/-- `c.swsp` (R497, 47_rvc.md). -/
def execCSwsp (rs2 : Reg) (uimm : BitVec 6) (s : State) : Outcome :=
  s.store 2#64 (s.ea (s.readX 2#5) (cwspOff uimm)) 4 (s.readX rs2)

/-- `c.fswsp` (R499, 47_rvc.md). -/
def execCFswsp (rs2 : Reg) (uimm : BitVec 6) (s : State) : Outcome :=
  s.store 2#64 (s.ea (s.readX 2#5) (cwspOff uimm)) 4 (s.readF rs2)

/-- `c.sdsp` (R498, 47_rvc.md). -/
def execCSdsp (rs2 : Reg) (uimm : BitVec 6) (s : State) : Outcome :=
  s.store 2#64 (s.ea (s.readX 2#5) (cdspOff uimm)) 8 (s.readX rs2)

end Sys2Proof.Machine
end

