-- ==== Sys2Proof/Machine/MulDiv.lean ====
section
/-! DEFINITION. The M extension (R270 to R285, 43_rvm.md). None raises an exception. -/

namespace Sys2Proof.Machine

open Sys2Proof

/-- `mul` (R273, 43_rvm.md). -/
def execMul (rd : Reg) (rs1 : Reg) (rs2 : Reg) (s : State) : Outcome :=
  s.doneX 4#64 rd (liftX s.cfg.xlen (fun _ a b => a * b) (s.readX rs1) (s.readX rs2))

/-- `mulh` (R274, 43_rvm.md). -/
def execMulh (rd : Reg) (rs1 : Reg) (rs2 : Reg) (s : State) : Outcome :=
  s.doneX 4#64 rd (liftX s.cfg.xlen mulhOp (s.readX rs1) (s.readX rs2))

/-- `mulhsu` (R275, 43_rvm.md). -/
def execMulhsu (rd : Reg) (rs1 : Reg) (rs2 : Reg) (s : State) : Outcome :=
  s.doneX 4#64 rd (liftX s.cfg.xlen mulhsuOp (s.readX rs1) (s.readX rs2))

/-- `mulhu` (R276, 43_rvm.md). -/
def execMulhu (rd : Reg) (rs1 : Reg) (rs2 : Reg) (s : State) : Outcome :=
  s.doneX 4#64 rd (liftX s.cfg.xlen mulhuOp (s.readX rs1) (s.readX rs2))

/-- `div` (R278, 43_rvm.md). -/
def execDiv (rd : Reg) (rs1 : Reg) (rs2 : Reg) (s : State) : Outcome :=
  s.doneX 4#64 rd (liftX s.cfg.xlen divOp (s.readX rs1) (s.readX rs2))

/-- `divu` (R279, 43_rvm.md). -/
def execDivu (rd : Reg) (rs1 : Reg) (rs2 : Reg) (s : State) : Outcome :=
  s.doneX 4#64 rd (liftX s.cfg.xlen divuOp (s.readX rs1) (s.readX rs2))

/-- `rem` (R280, 43_rvm.md). -/
def execRem (rd : Reg) (rs1 : Reg) (rs2 : Reg) (s : State) : Outcome :=
  s.doneX 4#64 rd (liftX s.cfg.xlen remOp (s.readX rs1) (s.readX rs2))

/-- `remu` (R281, 43_rvm.md). -/
def execRemu (rd : Reg) (rs1 : Reg) (rs2 : Reg) (s : State) : Outcome :=
  s.doneX 4#64 rd (liftX s.cfg.xlen remuOp (s.readX rs1) (s.readX rs2))

/-- `mulw` (R277, 43_rvm.md). -/
def execMulw (rd : Reg) (rs1 : Reg) (rs2 : Reg) (s : State) : Outcome :=
  s.doneX 4#64 rd (liftW (fun a b => a * b) (s.readX rs1) (s.readX rs2))

/-- `divw` (R282, 43_rvm.md). -/
def execDivw (rd : Reg) (rs1 : Reg) (rs2 : Reg) (s : State) : Outcome :=
  s.doneX 4#64 rd (liftW (divOp 32) (s.readX rs1) (s.readX rs2))

/-- `divuw` (R283, 43_rvm.md). -/
def execDivuw (rd : Reg) (rs1 : Reg) (rs2 : Reg) (s : State) : Outcome :=
  s.doneX 4#64 rd (liftW (divuOp 32) (s.readX rs1) (s.readX rs2))

/-- `remw` (R284, 43_rvm.md). -/
def execRemw (rd : Reg) (rs1 : Reg) (rs2 : Reg) (s : State) : Outcome :=
  s.doneX 4#64 rd (liftW (remOp 32) (s.readX rs1) (s.readX rs2))

/-- `remuw` (R285, 43_rvm.md). -/
def execRemuw (rd : Reg) (rs1 : Reg) (rs2 : Reg) (s : State) : Outcome :=
  s.doneX 4#64 rd (liftW (remuOp 32) (s.readX rs1) (s.readX rs2))

end Sys2Proof.Machine
end

