-- ==== Sys2Proof/Machine/Control.lean ====
section
/-! DEFINITION. Branches and jumps (R200 to R208, 41_rvi_control_mem.md). -/

namespace Sys2Proof.Machine

open Sys2Proof

/-- `beq` (R201, 41_rvi_control_mem.md). -/
def execBeq (rs1 : Reg) (rs2 : Reg) (off : BitVec 12) (s : State) : Outcome :=
  s.branch 4#64 (testX s.cfg.xlen (fun _ a b => a == b) (s.readX rs1) (s.readX rs2)) (branchOff
      s.cfg.xlen off)

/-- `bne` (R202, 41_rvi_control_mem.md). -/
def execBne (rs1 : Reg) (rs2 : Reg) (off : BitVec 12) (s : State) : Outcome :=
  s.branch 4#64 (testX s.cfg.xlen (fun _ a b => a != b) (s.readX rs1) (s.readX rs2)) (branchOff
      s.cfg.xlen off)

/-- `blt` (R203, 41_rvi_control_mem.md). -/
def execBlt (rs1 : Reg) (rs2 : Reg) (off : BitVec 12) (s : State) : Outcome :=
  s.branch 4#64 (testX s.cfg.xlen (fun _ a b => a.slt b) (s.readX rs1) (s.readX rs2)) (branchOff
      s.cfg.xlen off)

/-- `bge` (R204, 41_rvi_control_mem.md). -/
def execBge (rs1 : Reg) (rs2 : Reg) (off : BitVec 12) (s : State) : Outcome :=
  s.branch 4#64 (testX s.cfg.xlen (fun _ a b => !a.slt b) (s.readX rs1) (s.readX rs2)) (branchOff
      s.cfg.xlen off)

/-- `bltu` (R205, 41_rvi_control_mem.md). -/
def execBltu (rs1 : Reg) (rs2 : Reg) (off : BitVec 12) (s : State) : Outcome :=
  s.branch 4#64 (testX s.cfg.xlen (fun _ a b => a.ult b) (s.readX rs1) (s.readX rs2)) (branchOff
      s.cfg.xlen off)

/-- `bgeu` (R206, 41_rvi_control_mem.md). -/
def execBgeu (rs1 : Reg) (rs2 : Reg) (off : BitVec 12) (s : State) : Outcome :=
  s.branch 4#64 (testX s.cfg.xlen (fun _ a b => !a.ult b) (s.readX rs1) (s.readX rs2)) (branchOff
      s.cfg.xlen off)

/-- `jal` (R207, 41_rvi_control_mem.md). -/
def execJal (rd : Reg) (off : BitVec 20) (s : State) : Outcome :=
  s.jump (s.pc + jalOff s.cfg.xlen off) fun t => t.setX rd (s.pc + 4#64)

/-- `jalr` (R208, 41_rvi_control_mem.md). -/
def execJalr (rd : Reg) (rs1 : Reg) (off : BitVec 12) (s : State) : Outcome :=
  s.jump (s.ea (s.readX rs1) (off.signExtend 64) &&& ~~~1#64) fun t => t.setX rd (s.pc + 4#64)

end Sys2Proof.Machine
end

