-- ==== Sys2Proof/Machine/Float.lean ====
section
/-! DEFINITION. The floating-point arithmetic functions, FP of R12 (00_scope.md), on bit patterns as natural
numbers: formats (R341), rounding and flags (R344), NaNs (R345), conversions (R346, R347), minimum and
maximum (R348), classes (R349) and comparisons (R350), all of 45_rvf.md. Every finite value is computed
exactly as a sign, a natural number and a power of two, and rounded once. -/

namespace Sys2Proof.Machine

open Sys2Proof

/-- A binary format: its exponent bits `w` and fraction bits `t` (R341, 45_rvf.md). -/
structure Fmt where
  w : Nat
  t : Nat
  deriving DecidableEq, Repr

/-- binary32. -/
def Fmt.single : Fmt := { w := 8, t := 23 }

/-- binary64. -/
def Fmt.double : Fmt := { w := 11, t := 52 }

/-- The exponent bias. -/
def Fmt.bias (m : Fmt) : Int := 2 ^ (m.w - 1) - 1

/-- The exponent of the unit of the subnormals: `emin - p + 1` (R344, 45_rvf.md). -/
def Fmt.qmin (m : Fmt) : Int := 1 - m.bias - m.t

/-- The exponent of the unit of the largest finite numbers: `emax - p + 1` (R344, 45_rvf.md). -/
def Fmt.qmax (m : Fmt) : Int := m.bias - m.t

/-- The weight of the sign bit. -/
def Fmt.signWeight (m : Fmt) : Nat := 2 ^ (m.w + m.t)

/-- The canonical NaN (R341, 45_rvf.md). -/
def Fmt.nan (m : Fmt) : Nat := (2 ^ (m.w + 1) - 1) * 2 ^ (m.t - 1)

/-- The infinity of a sign. -/
def Fmt.inf (m : Fmt) (neg : Bool) : Nat :=
  (if neg then m.signWeight else 0) + (2 ^ m.w - 1) * 2 ^ m.t

/-- The zero of a sign. -/
def Fmt.zero (m : Fmt) (neg : Bool) : Nat := if neg then m.signWeight else 0

/-- The largest finite number of a sign: `MAX` of R344 (45_rvf.md). -/
def Fmt.max (m : Fmt) (neg : Bool) : Nat := m.inf neg - 1

/-- What a bit pattern stands for: a NaN, an infinity, or the finite number `± k * 2 ^ q`. -/
inductive FpVal where
  | nan (signaling : Bool)
  | inf (neg : Bool)
  | fin (neg : Bool) (k : Nat) (q : Int)
  deriving DecidableEq, Repr

/-- The sign bit of a pattern. -/
def fpNeg (m : Fmt) (v : Nat) : Bool := v / m.signWeight % 2 == 1

/-- The value of a pattern (R341, 45_rvf.md). -/
def fpUnpack (m : Fmt) (v : Nat) : FpVal :=
  let e := v / 2 ^ m.t % 2 ^ m.w
  let frac := v % 2 ^ m.t
  if e = 2 ^ m.w - 1 then
    if frac = 0 then .inf (fpNeg m v) else .nan (decide (frac < 2 ^ (m.t - 1)))
  else if e = 0 then .fin (fpNeg m v) frac m.qmin
  else .fin (fpNeg m v) (2 ^ m.t + frac) ((e : Int) - m.bias - m.t)

/-- The five rounding modes an instruction can use (R343, 45_rvf.md). -/
inductive RoundMode where
  | rne
  | rtz
  | rdn
  | rup
  | rmm
  deriving DecidableEq, Repr

/-- NV, DZ, OF, UF and NX as the bits of `fflags` (R46, 10_state.md). -/
def flagNV : BitVec 5 := 0b10000#5
/-- Divide by zero. -/
def flagDZ : BitVec 5 := 0b01000#5
/-- Overflow. -/
def flagOF : BitVec 5 := 0b00100#5
/-- Underflow. -/
def flagUF : BitVec 5 := 0b00010#5
/-- Inexact. -/
def flagNX : BitVec 5 := 0b00001#5

/-- `k / 2 ^ shift` rounded to an integer by the mode, for a number of the given sign (R344 a, 45_rvf.md). -/
def roundShift (mode : RoundMode) (neg : Bool) (k shift : Nat) : Nat :=
  let lo := k / 2 ^ shift
  let rem := k % 2 ^ shift
  let up : Bool :=
    match mode with
    | .rne => decide (2 ^ shift < 2 * rem) || (decide (2 * rem = 2 ^ shift) && lo % 2 == 1)
    | .rmm => decide (2 ^ shift ≤ 2 * rem) && rem != 0
    | .rtz => false
    | .rdn => neg && rem != 0
    | .rup => !neg && rem != 0
  if up then lo + 1 else lo

/-- The result of an overflow (R344 b, 45_rvf.md). -/
def fpOverflow (m : Fmt) (mode : RoundMode) (neg : Bool) : Nat :=
  match mode with
  | .rne => m.inf neg
  | .rmm => m.inf neg
  | .rtz => m.max neg
  | .rdn => if neg then m.inf neg else m.max neg
  | .rup => if neg then m.max neg else m.inf neg

/-- The pattern of the finite number `± k * 2 ^ q` of the format, with `k` at most `2 ^ p`. -/
def fpPack (m : Fmt) (neg : Bool) (k : Nat) (q : Int) : Nat :=
  m.zero neg +
    (if k < 2 ^ m.t then k else (q + m.bias + m.t).toNat * 2 ^ m.t + (k - 2 ^ m.t))

/-- `round_B` of the number `± k * 2 ^ q` with `k` positive (R344, 45_rvf.md). Tininess is detected after
rounding to `p` bits with unbounded exponent. -/
def fpRound (m : Fmt) (mode : RoundMode) (neg : Bool) (k : Nat) (q : Int) : Nat × BitVec 5 :=
  let e : Int := (Nat.log2 k : Int) + q
  let qfree : Int := e - m.t
  let qy : Int := max qfree m.qmin
  let shift := (qy - q).toNat
  let ky := roundShift mode neg (k * 2 ^ (q - qy).toNat) shift
  let exact : Bool := k * 2 ^ (q - qy).toNat % 2 ^ shift == 0
  let kfree := roundShift mode neg (k * 2 ^ (q - qfree).toNat) (qfree - q).toNat
  let tiny : Bool := decide (e < m.qmin + m.t) &&
    !(decide (e + 1 = m.qmin + m.t) && kfree == 2 ^ (m.t + 1))
  if m.qmax < qy ∨ (m.qmax = qy ∧ ky = 2 ^ (m.t + 1)) then
    (fpOverflow m mode neg, flagOF ||| flagNX)
  else
    (fpPack m neg ky qy,
      if exact then 0#5 else if tiny then flagUF ||| flagNX else flagNX)

/-- `round_B` of `± k * 2 ^ q` where a zero keeps its sign (R344 d, 45_rvf.md). -/
def fpRoundZ (m : Fmt) (mode : RoundMode) (neg : Bool) (k : Nat) (q : Int) : Nat × BitVec 5 :=
  if k = 0 then (m.zero neg, 0#5) else fpRound m mode neg k q

/-- The flag of an operation with a NaN operand: NV for a signaling one (R345, 45_rvf.md). -/
def nanFlag (signaling : Bool) : BitVec 5 := if signaling then flagNV else 0#5

/-- Whether a value is a NaN. -/
def FpVal.isNan : FpVal → Bool
  | .nan _ => true
  | _ => false

/-- Whether a value is a signaling NaN. -/
def FpVal.isSignaling : FpVal → Bool
  | .nan b => b
  | _ => false

/-- The value with its sign flipped; a NaN is not negated (R352, R356, 45_rvf.md). -/
def FpVal.negate : FpVal → FpVal
  | .nan b => .nan b
  | .inf n => .inf (!n)
  | .fin n k q => .fin (!n) k q

/-- The rounded sum of two finite numbers (R344 a, d, 45_rvf.md). -/
def fpAddFin (m : Fmt) (mode : RoundMode) (n1 : Bool) (k1 : Nat) (q1 : Int) (n2 : Bool) (k2 : Nat)
    (q2 : Int) : Nat × BitVec 5 :=
  let q := min q1 q2
  let a : Int := (k1 * 2 ^ (q1 - q).toNat : Nat)
  let b : Int := (k2 * 2 ^ (q2 - q).toNat : Nat)
  let sum : Int := (if n1 then -a else a) + (if n2 then -b else b)
  if sum = 0 then
    if n1 = n2 then (m.zero n1, 0#5) else (m.zero (decide (mode = .rdn)), 0#5)
  else fpRound m mode (decide (sum < 0)) sum.natAbs q

/-- The sum of two values (R344, R345, 45_rvf.md). -/
def fpAddVal (m : Fmt) (mode : RoundMode) (a b : FpVal) : Nat × BitVec 5 :=
  match a, b with
  | .nan s, v => (m.nan, nanFlag (s || v.isSignaling))
  | .inf _, .nan s => (m.nan, nanFlag s)
  | .fin _ _ _, .nan s => (m.nan, nanFlag s)
  | .inf n1, .inf n2 => if n1 = n2 then (m.inf n1, 0#5) else (m.nan, flagNV)
  | .inf n1, .fin _ _ _ => (m.inf n1, 0#5)
  | .fin _ _ _, .inf n2 => (m.inf n2, 0#5)
  | .fin n1 k1 q1, .fin n2 k2 q2 => fpAddFin m mode n1 k1 q1 n2 k2 q2

/-- `fadd_B` (R351, 45_rvf.md). -/
def fpAdd (m : Fmt) (mode : RoundMode) (a b : Nat) : Nat × BitVec 5 :=
  fpAddVal m mode (fpUnpack m a) (fpUnpack m b)

/-- `fsub_B`: the sum with the second operand negated (R352, 45_rvf.md). -/
def fpSub (m : Fmt) (mode : RoundMode) (a b : Nat) : Nat × BitVec 5 :=
  fpAddVal m mode (fpUnpack m a) (fpUnpack m b).negate

/-- The product of two values before rounding, or that the operation is invalid. -/
def fpMulVal (a b : FpVal) : FpVal × Bool :=
  match a, b with
  | .nan s, v => (.nan (s || v.isSignaling), false)
  | .inf _, .nan s => (.nan s, false)
  | .fin _ _ _, .nan s => (.nan s, false)
  | .inf n1, .inf n2 => (.inf (n1 != n2), false)
  | .inf n1, .fin n2 k2 _ => if k2 = 0 then (.nan false, true) else (.inf (n1 != n2), false)
  | .fin n1 k1 _, .inf n2 => if k1 = 0 then (.nan false, true) else (.inf (n1 != n2), false)
  | .fin n1 k1 q1, .fin n2 k2 q2 => (.fin (n1 != n2) (k1 * k2) (q1 + q2), false)

/-- `fmul_B` (R353, 45_rvf.md). -/
def fpMul (m : Fmt) (mode : RoundMode) (a b : Nat) : Nat × BitVec 5 :=
  match fpMulVal (fpUnpack m a) (fpUnpack m b) with
  | (.nan s, invalid) => (m.nan, nanFlag (s || invalid))
  | (.inf n, _) => (m.inf n, 0#5)
  | (.fin n k q, _) => fpRoundZ m mode n k q

/-- `ffma_B` on values: `a * b + c` rounded once. NV is set for zero times infinity even when the addend is a
quiet NaN (R345, R356, 45_rvf.md). -/
def fpFmaVal (m : Fmt) (mode : RoundMode) (a b c : FpVal) : Nat × BitVec 5 :=
  match fpMulVal a b with
  | (.nan s, invalid) => (m.nan, nanFlag (s || invalid || c.isSignaling))
  | (p, _) => fpAddVal m mode p c

/-- `fmadd`: `a * b + c` (R356, 45_rvf.md). -/
def fpMadd (m : Fmt) (mode : RoundMode) (a b c : Nat) : Nat × BitVec 5 :=
  fpFmaVal m mode (fpUnpack m a) (fpUnpack m b) (fpUnpack m c)

/-- `fmsub`: `a * b - c` (R357, 45_rvf.md). -/
def fpMsub (m : Fmt) (mode : RoundMode) (a b c : Nat) : Nat × BitVec 5 :=
  fpFmaVal m mode (fpUnpack m a) (fpUnpack m b) (fpUnpack m c).negate

/-- `fnmadd`: `-(a * b) - c` (R358, 45_rvf.md). -/
def fpNmadd (m : Fmt) (mode : RoundMode) (a b c : Nat) : Nat × BitVec 5 :=
  fpFmaVal m mode (fpUnpack m a).negate (fpUnpack m b) (fpUnpack m c).negate

/-- `fnmsub`: `-(a * b) + c` (R359, 45_rvf.md). -/
def fpNmsub (m : Fmt) (mode : RoundMode) (a b c : Nat) : Nat × BitVec 5 :=
  fpFmaVal m mode (fpUnpack m a).negate (fpUnpack m b) (fpUnpack m c)

/-- A dyadic number that rounds as the real number between `z` and `z + 1` does, when it has more than `p`
bits and is not an integer: twice `z`, made odd. -/
def fpJam (z : Nat) (inexact : Bool) : Nat := 2 * z + (if inexact then 1 else 0)

/-- `fdiv_B` (R354, 45_rvf.md): the quotient to more than `p + 2` bits with the remainder jammed into the
last one, rounded once. -/
def fpDiv (m : Fmt) (mode : RoundMode) (a b : Nat) : Nat × BitVec 5 :=
  match fpUnpack m a, fpUnpack m b with
  | .nan s, v => (m.nan, nanFlag (s || v.isSignaling))
  | .inf _, .nan s => (m.nan, nanFlag s)
  | .fin _ _ _, .nan s => (m.nan, nanFlag s)
  | .inf _, .inf _ => (m.nan, flagNV)
  | .inf n1, .fin n2 _ _ => (m.inf (n1 != n2), 0#5)
  | .fin n1 _ _, .inf n2 => (m.zero (n1 != n2), 0#5)
  | .fin n1 k1 q1, .fin n2 k2 q2 =>
    if k2 = 0 then
      if k1 = 0 then (m.nan, flagNV) else (m.inf (n1 != n2), flagDZ)
    else
      let num := k1 * 2 ^ (2 * m.t + 5)
      fpRoundZ m mode (n1 != n2) (fpJam (num / k2) (num % k2 != 0)) (q1 - q2 - (2 * m.t + 5 : Nat) - 1)

/-- The integer square root, bit by bit from bit `fuel - 1` down. -/
def isqrtFrom (n : Nat) : Nat → Nat → Nat
  | 0, r => r
  | fuel + 1, r =>
    if (r + 2 ^ fuel) * (r + 2 ^ fuel) ≤ n then isqrtFrom n fuel (r + 2 ^ fuel)
    else isqrtFrom n fuel r

/-- The integer square root. -/
def isqrt (n : Nat) : Nat := isqrtFrom n (Nat.log2 n / 2 + 1) 0

/-- `fsqrt_B` (R355, 45_rvf.md): the root to more than `p + 2` bits, jammed, rounded once. -/
def fpSqrt (m : Fmt) (mode : RoundMode) (a : Nat) : Nat × BitVec 5 :=
  match fpUnpack m a with
  | .nan s => (m.nan, nanFlag s)
  | .inf neg => if neg then (m.nan, flagNV) else (m.inf false, 0#5)
  | .fin neg k q =>
    if k = 0 then (m.zero neg, 0#5)
    else if neg then (m.nan, flagNV)
    else
      let shift : Nat := 2 * m.t + 8 + (q % 2).toNat
      let n := k * 2 ^ shift
      fpRound m mode false (fpJam (isqrt n) (isqrt n * isqrt n != n)) ((q - shift) / 2 - 1)

/-- `i2f_B`: an integer rounded to the format (R346, 45_rvf.md). -/
def fpOfInt (m : Fmt) (mode : RoundMode) (n : Int) : Nat × BitVec 5 :=
  fpRoundZ m mode (decide (n < 0)) n.natAbs 0

/-- The result of `f2i` for a rounded number: saturated with NV outside the range (R347, 45_rvf.md). -/
def fpSaturate (lo hi n : Int) (exact : Bool) : Int × BitVec 5 :=
  if hi < n then (hi, flagNV)
  else if n < lo then (lo, flagNV)
  else (n, if exact then 0#5 else flagNX)

/-- `f2i` to the integers from `lo` to `hi` (R347, 45_rvf.md). -/
def fpToInt (m : Fmt) (mode : RoundMode) (lo hi : Int) (a : Nat) : Int × BitVec 5 :=
  match fpUnpack m a with
  | .nan _ => (hi, flagNV)
  | .inf neg => (if neg then lo else hi, flagNV)
  | .fin neg k q =>
    let n := roundShift mode neg (k * 2 ^ q.toNat) (-q).toNat
    fpSaturate lo hi (if neg then -(n : Int) else n) (k % 2 ^ (-q).toNat == 0)

/-- The conversion of a value of one format to another: `fcvt.s.d` and `fcvt.d.s` (R345, 45_rvf.md). -/
def fpConvert (src dst : Fmt) (mode : RoundMode) (a : Nat) : Nat × BitVec 5 :=
  match fpUnpack src a with
  | .nan s => (dst.nan, nanFlag s)
  | .inf neg => (dst.inf neg, 0#5)
  | .fin neg k q => fpRoundZ dst mode neg k q

/-- The place of a pattern in the numerical order of the non-NaN values, both zeros at 0 (R350, 45_rvf.md). -/
def fpKey (m : Fmt) (v : Nat) : Int :=
  if fpNeg m v then -((v % m.signWeight : Nat) : Int) else (v % m.signWeight : Nat)

/-- Whether a pattern is a NaN. -/
def fpIsNan (m : Fmt) (v : Nat) : Bool := (fpUnpack m v).isNan

/-- Whether a pattern is a signaling NaN. -/
def fpIsSignaling (m : Fmt) (v : Nat) : Bool := (fpUnpack m v).isSignaling

/-- `feq_B` (R350, 45_rvf.md): quiet. -/
def fpEq (m : Fmt) (a b : Nat) : Bool × BitVec 5 :=
  (!fpIsNan m a && !fpIsNan m b && decide (fpKey m a = fpKey m b),
    nanFlag (fpIsSignaling m a || fpIsSignaling m b))

/-- `flt_B` (R350, 45_rvf.md): signaling. -/
def fpLt (m : Fmt) (a b : Nat) : Bool × BitVec 5 :=
  (!fpIsNan m a && !fpIsNan m b && decide (fpKey m a < fpKey m b), nanFlag (fpIsNan m a || fpIsNan m b))

/-- `fle_B` (R350, 45_rvf.md): signaling. -/
def fpLe (m : Fmt) (a b : Nat) : Bool × BitVec 5 :=
  (!fpIsNan m a && !fpIsNan m b && decide (fpKey m a ≤ fpKey m b), nanFlag (fpIsNan m a || fpIsNan m b))

/-- `fmin_B` (R348, 45_rvf.md); -0 is smaller than +0. -/
def fpMin (m : Fmt) (a b : Nat) : Nat × BitVec 5 :=
  (if fpIsNan m a then (if fpIsNan m b then m.nan else b)
    else if fpIsNan m b then a
    else if fpKey m a < fpKey m b then a
    else if fpKey m b < fpKey m a then b
    else if fpNeg m a then a else b,
    nanFlag (fpIsSignaling m a || fpIsSignaling m b))

/-- `fmax_B` (R348, 45_rvf.md). -/
def fpMax (m : Fmt) (a b : Nat) : Nat × BitVec 5 :=
  (if fpIsNan m a then (if fpIsNan m b then m.nan else b)
    else if fpIsNan m b then a
    else if fpKey m a < fpKey m b then b
    else if fpKey m b < fpKey m a then a
    else if fpNeg m a then b else a,
    nanFlag (fpIsSignaling m a || fpIsSignaling m b))

/-- `classify_B`: the mask with one bit set (R349, 45_rvf.md). -/
def fpClassify (m : Fmt) (v : Nat) : BitVec 10 :=
  match fpUnpack m v with
  | .nan s => if s then 0x100#10 else 0x200#10
  | .inf neg => if neg then 0x001#10 else 0x080#10
  | .fin neg k _ =>
    if k = 0 then (if neg then 0x008#10 else 0x010#10)
    else if k < 2 ^ m.t then (if neg then 0x004#10 else 0x020#10)
    else if neg then 0x002#10 else 0x040#10

end Sys2Proof.Machine
end

