-- ==== Sys2Proof/Machine/Flags.lean ====
section
/-! DEFINITION. The only status flags of the machine: the accrued floating-point exception flags of `fflags`,
and the dynamic rounding mode beside them in `fcsr` (R38, R39, R46, 10_state.md; R343, R344, 45_rvf.md). -/

namespace Sys2Proof.Machine

open Sys2Proof

/-- `fflags`: `fcsr[4:0]` (R46, 10_state.md). -/
def State.fflags (s : State) : BitVec 5 := s.fcsr.extractLsb' 0 5

/-- `frm`: `fcsr[7:5]` (R46, 10_state.md). -/
def State.frm (s : State) : BitVec 3 := s.fcsr.extractLsb' 5 3

/-- `fflags <- fflags | fl`: flags accumulate (R344, 45_rvf.md). -/
def State.accrue (s : State) (fl : BitVec 5) : State :=
  { s with fcsr := s.fcsr ||| fl.setWidth 8 }

/-- The mode that a rounding-mode code names, if it is not reserved (R343, 45_rvf.md). -/
def roundModeOf (c : BitVec 3) : Option RoundMode :=
  match c with
  | 0b000#3 => some .rne
  | 0b001#3 => some .rtz
  | 0b010#3 => some .rdn
  | 0b011#3 => some .rup
  | 0b100#3 => some .rmm
  | _ => none

/-- `rounding_mode(rm)`: none when the dynamic mode in `frm` is reserved (R343, 45_rvf.md). -/
def State.roundMode (s : State) (rm : Rounding) : Option RoundMode :=
  match rm with
  | .rne => some .rne
  | .rtz => some .rtz
  | .rdn => some .rdn
  | .rup => some .rup
  | .rmm => some .rmm
  | .dyn => roundModeOf s.frm

/-- An instruction with an `rm` field: a reserved mode makes it illegal (R343, 45_rvf.md). -/
def State.withRound (s : State) (i : Instr) (rm : Rounding) (k : RoundMode → Outcome) : Outcome :=
  match s.roundMode rm with
  | some mode => k mode
  | none => s.raise (.illegal (i.word s.cfg.xlen))

/-- The end of a floating-point instruction with a single-precision result. -/
def State.doneS (s : State) (rd : Reg) (r : Nat × BitVec 5) : Outcome :=
  .next (((s.setS rd (BitVec.ofNat 32 r.1)).accrue r.2).advance 4#64)

/-- The end of a floating-point instruction with a double-precision result. -/
def State.doneD (s : State) (rd : Reg) (r : Nat × BitVec 5) : Outcome :=
  .next (((s.setF rd (BitVec.ofNat 64 r.1)).accrue r.2).advance 4#64)

/-- The end of a floating-point instruction with an integer result. -/
def State.doneI (s : State) (rd : Reg) (v : Word) (fl : BitVec 5) : Outcome :=
  .next (((s.setX rd v).accrue fl).advance 4#64)

end Sys2Proof.Machine
end

