-- ==== Sys2Proof/Machine/FloatSingle.lean ====
section
/-! DEFINITION. The F extension but for its loads and stores (R351 to R378, 45_rvf.md). -/

namespace Sys2Proof.Machine

open Sys2Proof

/-- `{b's sign, a's rest}` (R362, 45_rvf.md; R416, 46_rvd.md). -/
def signInject {n : Nat} (a b : BitVec n) : BitVec n :=
  (b &&& BitVec.intMin n) ||| (a &&& ~~~BitVec.intMin n)

/-- The same with the opposite sign (R363, 45_rvf.md; R417, 46_rvd.md). -/
def signInjectNeg {n : Nat} (a b : BitVec n) : BitVec n := signInject a (~~~b)

/-- The same with the exclusive OR of the signs (R364, 45_rvf.md; R418, 46_rvd.md). -/
def signInjectXor {n : Nat} (a b : BitVec n) : BitVec n := signInject a (a ^^^ b)

/-- `fmadd.s` (R356, 45_rvf.md). -/
def execFmaddS (rd : Reg) (rs1 : Reg) (rs2 : Reg) (rs3 : Reg) (rm : Rounding) (s : State) : Outcome
    :=
  s.withRound (.fmadd_s rd rs1 rs2 rs3 rm) rm fun mode =>
    s.doneS rd (fpMadd .single mode (s.readS rs1).toNat (s.readS rs2).toNat (s.readS rs3).toNat)

/-- `fmsub.s` (R357, 45_rvf.md). -/
def execFmsubS (rd : Reg) (rs1 : Reg) (rs2 : Reg) (rs3 : Reg) (rm : Rounding) (s : State) : Outcome
    :=
  s.withRound (.fmsub_s rd rs1 rs2 rs3 rm) rm fun mode =>
    s.doneS rd (fpMsub .single mode (s.readS rs1).toNat (s.readS rs2).toNat (s.readS rs3).toNat)

/-- `fnmsub.s` (R359, 45_rvf.md). -/
def execFnmsubS (rd : Reg) (rs1 : Reg) (rs2 : Reg) (rs3 : Reg) (rm : Rounding) (s : State) :
    Outcome :=
  s.withRound (.fnmsub_s rd rs1 rs2 rs3 rm) rm fun mode =>
    s.doneS rd (fpNmsub .single mode (s.readS rs1).toNat (s.readS rs2).toNat (s.readS rs3).toNat)

/-- `fnmadd.s` (R358, 45_rvf.md). -/
def execFnmaddS (rd : Reg) (rs1 : Reg) (rs2 : Reg) (rs3 : Reg) (rm : Rounding) (s : State) :
    Outcome :=
  s.withRound (.fnmadd_s rd rs1 rs2 rs3 rm) rm fun mode =>
    s.doneS rd (fpNmadd .single mode (s.readS rs1).toNat (s.readS rs2).toNat (s.readS rs3).toNat)

/-- `fadd.s` (R351, 45_rvf.md). -/
def execFaddS (rd : Reg) (rs1 : Reg) (rs2 : Reg) (rm : Rounding) (s : State) : Outcome :=
  s.withRound (.fadd_s rd rs1 rs2 rm) rm fun mode =>
    s.doneS rd (fpAdd .single mode (s.readS rs1).toNat (s.readS rs2).toNat)

/-- `fsub.s` (R352, 45_rvf.md). -/
def execFsubS (rd : Reg) (rs1 : Reg) (rs2 : Reg) (rm : Rounding) (s : State) : Outcome :=
  s.withRound (.fsub_s rd rs1 rs2 rm) rm fun mode =>
    s.doneS rd (fpSub .single mode (s.readS rs1).toNat (s.readS rs2).toNat)

/-- `fmul.s` (R353, 45_rvf.md). -/
def execFmulS (rd : Reg) (rs1 : Reg) (rs2 : Reg) (rm : Rounding) (s : State) : Outcome :=
  s.withRound (.fmul_s rd rs1 rs2 rm) rm fun mode =>
    s.doneS rd (fpMul .single mode (s.readS rs1).toNat (s.readS rs2).toNat)

/-- `fdiv.s` (R354, 45_rvf.md). -/
def execFdivS (rd : Reg) (rs1 : Reg) (rs2 : Reg) (rm : Rounding) (s : State) : Outcome :=
  s.withRound (.fdiv_s rd rs1 rs2 rm) rm fun mode =>
    s.doneS rd (fpDiv .single mode (s.readS rs1).toNat (s.readS rs2).toNat)

/-- `fsqrt.s` (R355, 45_rvf.md). -/
def execFsqrtS (rd : Reg) (rs1 : Reg) (rm : Rounding) (s : State) : Outcome :=
  s.withRound (.fsqrt_s rd rs1 rm) rm fun mode =>
    s.doneS rd (fpSqrt .single mode (s.readS rs1).toNat)

/-- `fsgnj.s` (R362, 45_rvf.md). -/
def execFsgnjS (rd : Reg) (rs1 : Reg) (rs2 : Reg) (s : State) : Outcome :=
  .next ((s.setS rd (signInject (s.readS rs1) (s.readS rs2))).advance 4#64)

/-- `fsgnjn.s` (R363, 45_rvf.md). -/
def execFsgnjnS (rd : Reg) (rs1 : Reg) (rs2 : Reg) (s : State) : Outcome :=
  .next ((s.setS rd (signInjectNeg (s.readS rs1) (s.readS rs2))).advance 4#64)

/-- `fsgnjx.s` (R364, 45_rvf.md). -/
def execFsgnjxS (rd : Reg) (rs1 : Reg) (rs2 : Reg) (s : State) : Outcome :=
  .next ((s.setS rd (signInjectXor (s.readS rs1) (s.readS rs2))).advance 4#64)

/-- `fmin.s` (R360, 45_rvf.md). -/
def execFminS (rd : Reg) (rs1 : Reg) (rs2 : Reg) (s : State) : Outcome :=
  s.doneS rd (fpMin .single (s.readS rs1).toNat (s.readS rs2).toNat)

/-- `fmax.s` (R361, 45_rvf.md). -/
def execFmaxS (rd : Reg) (rs1 : Reg) (rs2 : Reg) (s : State) : Outcome :=
  s.doneS rd (fpMax .single (s.readS rs1).toNat (s.readS rs2).toNat)

/-- `feq.s` (R365, 45_rvf.md). -/
def execFeqS (rd : Reg) (rs1 : Reg) (rs2 : Reg) (s : State) : Outcome :=
  let r := fpEq .single (s.readS rs1).toNat (s.readS rs2).toNat
  s.doneI rd (boolWord r.1) r.2

/-- `flt.s` (R366, 45_rvf.md). -/
def execFltS (rd : Reg) (rs1 : Reg) (rs2 : Reg) (s : State) : Outcome :=
  let r := fpLt .single (s.readS rs1).toNat (s.readS rs2).toNat
  s.doneI rd (boolWord r.1) r.2

/-- `fle.s` (R367, 45_rvf.md). -/
def execFleS (rd : Reg) (rs1 : Reg) (rs2 : Reg) (s : State) : Outcome :=
  let r := fpLe .single (s.readS rs1).toNat (s.readS rs2).toNat
  s.doneI rd (boolWord r.1) r.2

/-- `fclass.s` (R368, 45_rvf.md). -/
def execFclassS (rd : Reg) (rs1 : Reg) (s : State) : Outcome :=
  s.doneX 4#64 rd ((fpClassify .single (s.readS rs1).toNat).setWidth 64)

/-- `fcvt.w.s` (R369, 45_rvf.md). -/
def execFcvtWS (rd : Reg) (rs1 : Reg) (rm : Rounding) (s : State) : Outcome :=
  s.withRound (.fcvt_w_s rd rs1 rm) rm fun mode =>
    let r := fpToInt .single mode (-2 ^ 31) (2 ^ 31 - 1) (s.readS rs1).toNat
    s.doneI rd (sextX s.cfg.xlen (BitVec.ofInt 32 r.1)) r.2

/-- `fcvt.s.w` (R373, 45_rvf.md). -/
def execFcvtSW (rd : Reg) (rs1 : Reg) (rm : Rounding) (s : State) : Outcome :=
  s.withRound (.fcvt_s_w rd rs1 rm) rm fun mode =>
    s.doneS rd (fpOfInt .single mode ((s.readX rs1).setWidth 32).toInt)

/-- `fcvt.wu.s` (R370, 45_rvf.md). -/
def execFcvtWuS (rd : Reg) (rs1 : Reg) (rm : Rounding) (s : State) : Outcome :=
  s.withRound (.fcvt_wu_s rd rs1 rm) rm fun mode =>
    let r := fpToInt .single mode 0 (2 ^ 32 - 1) (s.readS rs1).toNat
    s.doneI rd (sextX s.cfg.xlen (BitVec.ofInt 32 r.1)) r.2

/-- `fcvt.s.wu` (R374, 45_rvf.md). -/
def execFcvtSWu (rd : Reg) (rs1 : Reg) (rm : Rounding) (s : State) : Outcome :=
  s.withRound (.fcvt_s_wu rd rs1 rm) rm fun mode =>
    s.doneS rd (fpOfInt .single mode (((s.readX rs1).setWidth 32).toNat : Int))

/-- `fcvt.l.s` (R371, 45_rvf.md). -/
def execFcvtLS (rd : Reg) (rs1 : Reg) (rm : Rounding) (s : State) : Outcome :=
  s.withRound (.fcvt_l_s rd rs1 rm) rm fun mode =>
    let r := fpToInt .single mode (-2 ^ 63) (2 ^ 63 - 1) (s.readS rs1).toNat
    s.doneI rd (BitVec.ofInt 64 r.1) r.2

/-- `fcvt.s.l` (R375, 45_rvf.md). -/
def execFcvtSL (rd : Reg) (rs1 : Reg) (rm : Rounding) (s : State) : Outcome :=
  s.withRound (.fcvt_s_l rd rs1 rm) rm fun mode =>
    s.doneS rd (fpOfInt .single mode (s.readX rs1).toInt)

/-- `fcvt.lu.s` (R372, 45_rvf.md). -/
def execFcvtLuS (rd : Reg) (rs1 : Reg) (rm : Rounding) (s : State) : Outcome :=
  s.withRound (.fcvt_lu_s rd rs1 rm) rm fun mode =>
    let r := fpToInt .single mode 0 (2 ^ 64 - 1) (s.readS rs1).toNat
    s.doneI rd (BitVec.ofInt 64 r.1) r.2

/-- `fcvt.s.lu` (R376, 45_rvf.md). -/
def execFcvtSLu (rd : Reg) (rs1 : Reg) (rm : Rounding) (s : State) : Outcome :=
  s.withRound (.fcvt_s_lu rd rs1 rm) rm fun mode =>
    s.doneS rd (fpOfInt .single mode ((s.readX rs1).toNat : Int))

/-- `fmv.x.w` (R377, 45_rvf.md). -/
def execFmvXW (rd : Reg) (rs1 : Reg) (s : State) : Outcome :=
  s.doneX 4#64 rd (sextX s.cfg.xlen ((s.readF rs1).setWidth 32))

/-- `fmv.w.x` (R378, 45_rvf.md). -/
def execFmvWX (rd : Reg) (rs1 : Reg) (s : State) : Outcome :=
  .next ((s.setS rd ((s.readX rs1).setWidth 32)).advance 4#64)

end Sys2Proof.Machine
end

