-- ==== Sys2Proof/Machine/FloatDouble.lean ====
section
/-! DEFINITION. The D extension but for its loads and stores (R405 to R434, 46_rvd.md). -/

namespace Sys2Proof.Machine

open Sys2Proof

/-- `fmadd.d` (R410, 46_rvd.md). -/
def execFmaddD (rd : Reg) (rs1 : Reg) (rs2 : Reg) (rs3 : Reg) (rm : Rounding) (s : State) : Outcome
    :=
  s.withRound (.fmadd_d rd rs1 rs2 rs3 rm) rm fun mode =>
    s.doneD rd (fpMadd .double mode (s.readF rs1).toNat (s.readF rs2).toNat (s.readF rs3).toNat)

/-- `fmsub.d` (R411, 46_rvd.md). -/
def execFmsubD (rd : Reg) (rs1 : Reg) (rs2 : Reg) (rs3 : Reg) (rm : Rounding) (s : State) : Outcome
    :=
  s.withRound (.fmsub_d rd rs1 rs2 rs3 rm) rm fun mode =>
    s.doneD rd (fpMsub .double mode (s.readF rs1).toNat (s.readF rs2).toNat (s.readF rs3).toNat)

/-- `fnmsub.d` (R413, 46_rvd.md). -/
def execFnmsubD (rd : Reg) (rs1 : Reg) (rs2 : Reg) (rs3 : Reg) (rm : Rounding) (s : State) :
    Outcome :=
  s.withRound (.fnmsub_d rd rs1 rs2 rs3 rm) rm fun mode =>
    s.doneD rd (fpNmsub .double mode (s.readF rs1).toNat (s.readF rs2).toNat (s.readF rs3).toNat)

/-- `fnmadd.d` (R412, 46_rvd.md). -/
def execFnmaddD (rd : Reg) (rs1 : Reg) (rs2 : Reg) (rs3 : Reg) (rm : Rounding) (s : State) :
    Outcome :=
  s.withRound (.fnmadd_d rd rs1 rs2 rs3 rm) rm fun mode =>
    s.doneD rd (fpNmadd .double mode (s.readF rs1).toNat (s.readF rs2).toNat (s.readF rs3).toNat)

/-- `fadd.d` (R405, 46_rvd.md). -/
def execFaddD (rd : Reg) (rs1 : Reg) (rs2 : Reg) (rm : Rounding) (s : State) : Outcome :=
  s.withRound (.fadd_d rd rs1 rs2 rm) rm fun mode =>
    s.doneD rd (fpAdd .double mode (s.readF rs1).toNat (s.readF rs2).toNat)

/-- `fsub.d` (R406, 46_rvd.md). -/
def execFsubD (rd : Reg) (rs1 : Reg) (rs2 : Reg) (rm : Rounding) (s : State) : Outcome :=
  s.withRound (.fsub_d rd rs1 rs2 rm) rm fun mode =>
    s.doneD rd (fpSub .double mode (s.readF rs1).toNat (s.readF rs2).toNat)

/-- `fmul.d` (R407, 46_rvd.md). -/
def execFmulD (rd : Reg) (rs1 : Reg) (rs2 : Reg) (rm : Rounding) (s : State) : Outcome :=
  s.withRound (.fmul_d rd rs1 rs2 rm) rm fun mode =>
    s.doneD rd (fpMul .double mode (s.readF rs1).toNat (s.readF rs2).toNat)

/-- `fdiv.d` (R408, 46_rvd.md). -/
def execFdivD (rd : Reg) (rs1 : Reg) (rs2 : Reg) (rm : Rounding) (s : State) : Outcome :=
  s.withRound (.fdiv_d rd rs1 rs2 rm) rm fun mode =>
    s.doneD rd (fpDiv .double mode (s.readF rs1).toNat (s.readF rs2).toNat)

/-- `fsqrt.d` (R409, 46_rvd.md). -/
def execFsqrtD (rd : Reg) (rs1 : Reg) (rm : Rounding) (s : State) : Outcome :=
  s.withRound (.fsqrt_d rd rs1 rm) rm fun mode =>
    s.doneD rd (fpSqrt .double mode (s.readF rs1).toNat)

/-- `fsgnj.d` (R416, 46_rvd.md). -/
def execFsgnjD (rd : Reg) (rs1 : Reg) (rs2 : Reg) (s : State) : Outcome :=
  .next ((s.setF rd (signInject (s.readF rs1) (s.readF rs2))).advance 4#64)

/-- `fsgnjn.d` (R417, 46_rvd.md). -/
def execFsgnjnD (rd : Reg) (rs1 : Reg) (rs2 : Reg) (s : State) : Outcome :=
  .next ((s.setF rd (signInjectNeg (s.readF rs1) (s.readF rs2))).advance 4#64)

/-- `fsgnjx.d` (R418, 46_rvd.md). -/
def execFsgnjxD (rd : Reg) (rs1 : Reg) (rs2 : Reg) (s : State) : Outcome :=
  .next ((s.setF rd (signInjectXor (s.readF rs1) (s.readF rs2))).advance 4#64)

/-- `fmin.d` (R414, 46_rvd.md). -/
def execFminD (rd : Reg) (rs1 : Reg) (rs2 : Reg) (s : State) : Outcome :=
  s.doneD rd (fpMin .double (s.readF rs1).toNat (s.readF rs2).toNat)

/-- `fmax.d` (R415, 46_rvd.md). -/
def execFmaxD (rd : Reg) (rs1 : Reg) (rs2 : Reg) (s : State) : Outcome :=
  s.doneD rd (fpMax .double (s.readF rs1).toNat (s.readF rs2).toNat)

/-- `feq.d` (R419, 46_rvd.md). -/
def execFeqD (rd : Reg) (rs1 : Reg) (rs2 : Reg) (s : State) : Outcome :=
  let r := fpEq .double (s.readF rs1).toNat (s.readF rs2).toNat
  s.doneI rd (boolWord r.1) r.2

/-- `flt.d` (R420, 46_rvd.md). -/
def execFltD (rd : Reg) (rs1 : Reg) (rs2 : Reg) (s : State) : Outcome :=
  let r := fpLt .double (s.readF rs1).toNat (s.readF rs2).toNat
  s.doneI rd (boolWord r.1) r.2

/-- `fle.d` (R421, 46_rvd.md). -/
def execFleD (rd : Reg) (rs1 : Reg) (rs2 : Reg) (s : State) : Outcome :=
  let r := fpLe .double (s.readF rs1).toNat (s.readF rs2).toNat
  s.doneI rd (boolWord r.1) r.2

/-- `fclass.d` (R422, 46_rvd.md). -/
def execFclassD (rd : Reg) (rs1 : Reg) (s : State) : Outcome :=
  s.doneX 4#64 rd ((fpClassify .double (s.readF rs1).toNat).setWidth 64)

/-- `fcvt.w.d` (R423, 46_rvd.md). -/
def execFcvtWD (rd : Reg) (rs1 : Reg) (rm : Rounding) (s : State) : Outcome :=
  s.withRound (.fcvt_w_d rd rs1 rm) rm fun mode =>
    let r := fpToInt .double mode (-2 ^ 31) (2 ^ 31 - 1) (s.readF rs1).toNat
    s.doneI rd (sextX s.cfg.xlen (BitVec.ofInt 32 r.1)) r.2

/-- `fcvt.d.w` (R427, 46_rvd.md). -/
def execFcvtDW (rd : Reg) (rs1 : Reg) (rm : Rounding) (s : State) : Outcome :=
  s.withRound (.fcvt_d_w rd rs1 rm) rm fun mode =>
    s.doneD rd (fpOfInt .double mode ((s.readX rs1).setWidth 32).toInt)

/-- `fcvt.wu.d` (R424, 46_rvd.md). -/
def execFcvtWuD (rd : Reg) (rs1 : Reg) (rm : Rounding) (s : State) : Outcome :=
  s.withRound (.fcvt_wu_d rd rs1 rm) rm fun mode =>
    let r := fpToInt .double mode 0 (2 ^ 32 - 1) (s.readF rs1).toNat
    s.doneI rd (sextX s.cfg.xlen (BitVec.ofInt 32 r.1)) r.2

/-- `fcvt.d.wu` (R428, 46_rvd.md). -/
def execFcvtDWu (rd : Reg) (rs1 : Reg) (rm : Rounding) (s : State) : Outcome :=
  s.withRound (.fcvt_d_wu rd rs1 rm) rm fun mode =>
    s.doneD rd (fpOfInt .double mode (((s.readX rs1).setWidth 32).toNat : Int))

/-- `fcvt.l.d` (R425, 46_rvd.md). -/
def execFcvtLD (rd : Reg) (rs1 : Reg) (rm : Rounding) (s : State) : Outcome :=
  s.withRound (.fcvt_l_d rd rs1 rm) rm fun mode =>
    let r := fpToInt .double mode (-2 ^ 63) (2 ^ 63 - 1) (s.readF rs1).toNat
    s.doneI rd (BitVec.ofInt 64 r.1) r.2

/-- `fcvt.d.l` (R429, 46_rvd.md). -/
def execFcvtDL (rd : Reg) (rs1 : Reg) (rm : Rounding) (s : State) : Outcome :=
  s.withRound (.fcvt_d_l rd rs1 rm) rm fun mode =>
    s.doneD rd (fpOfInt .double mode (s.readX rs1).toInt)

/-- `fcvt.lu.d` (R426, 46_rvd.md). -/
def execFcvtLuD (rd : Reg) (rs1 : Reg) (rm : Rounding) (s : State) : Outcome :=
  s.withRound (.fcvt_lu_d rd rs1 rm) rm fun mode =>
    let r := fpToInt .double mode 0 (2 ^ 64 - 1) (s.readF rs1).toNat
    s.doneI rd (BitVec.ofInt 64 r.1) r.2

/-- `fcvt.d.lu` (R430, 46_rvd.md). -/
def execFcvtDLu (rd : Reg) (rs1 : Reg) (rm : Rounding) (s : State) : Outcome :=
  s.withRound (.fcvt_d_lu rd rs1 rm) rm fun mode =>
    s.doneD rd (fpOfInt .double mode ((s.readX rs1).toNat : Int))

/-- `fcvt.s.d` (R431, 46_rvd.md). -/
def execFcvtSD (rd : Reg) (rs1 : Reg) (rm : Rounding) (s : State) : Outcome :=
  s.withRound (.fcvt_s_d rd rs1 rm) rm fun mode =>
    s.doneS rd (fpConvert .double .single mode (s.readF rs1).toNat)

/-- `fcvt.d.s` (R432, 46_rvd.md). -/
def execFcvtDS (rd : Reg) (rs1 : Reg) (rm : Rounding) (s : State) : Outcome :=
  s.withRound (.fcvt_d_s rd rs1 rm) rm fun mode =>
    s.doneD rd (fpConvert .single .double mode (s.readS rs1).toNat)

/-- `fmv.x.d` (R433, 46_rvd.md). -/
def execFmvXD (rd : Reg) (rs1 : Reg) (s : State) : Outcome :=
  s.doneX 4#64 rd (s.readF rs1)

/-- `fmv.d.x` (R434, 46_rvd.md). -/
def execFmvDX (rd : Reg) (rs1 : Reg) (s : State) : Outcome :=
  .next ((s.setF rd (s.readX rs1)).advance 4#64)

end Sys2Proof.Machine
end

