-- ==== Sys2Proof/Machine/Integer.lean ====
section
/-! DEFINITION. The integer computational instructions (R160 to R190, 40_rvi_compute.md). None reads or writes
memory, none can raise an exception, each ends with `pc <- pc + 4` (R160). -/

namespace Sys2Proof.Machine

open Sys2Proof

/-- `add` (R161, 40_rvi_compute.md). -/
def execAdd (rd : Reg) (rs1 : Reg) (rs2 : Reg) (s : State) : Outcome :=
  s.doneX 4#64 rd (liftX s.cfg.xlen (fun _ a b => a + b) (s.readX rs1) (s.readX rs2))

/-- `sub` (R187, 40_rvi_compute.md). -/
def execSub (rd : Reg) (rs1 : Reg) (rs2 : Reg) (s : State) : Outcome :=
  s.doneX 4#64 rd (liftX s.cfg.xlen (fun _ a b => a - b) (s.readX rs1) (s.readX rs2))

/-- `sll` (R171, 40_rvi_compute.md). -/
def execSll (rd : Reg) (rs1 : Reg) (rs2 : Reg) (s : State) : Outcome :=
  s.doneX 4#64 rd (sllX s.cfg.xlen (s.readX rs1) (shamtX s.cfg.xlen (s.readX rs2)))

/-- `slt` (R175, 40_rvi_compute.md). -/
def execSlt (rd : Reg) (rs1 : Reg) (rs2 : Reg) (s : State) : Outcome :=
  s.doneX 4#64 rd (boolWord (testX s.cfg.xlen (fun _ a b => a.slt b) (s.readX rs1) (s.readX rs2)))

/-- `sltu` (R178, 40_rvi_compute.md). -/
def execSltu (rd : Reg) (rs1 : Reg) (rs2 : Reg) (s : State) : Outcome :=
  s.doneX 4#64 rd (boolWord (testX s.cfg.xlen (fun _ a b => a.ult b) (s.readX rs1) (s.readX rs2)))

/-- `xor` (R189, 40_rvi_compute.md). -/
def execXor (rd : Reg) (rs1 : Reg) (rs2 : Reg) (s : State) : Outcome :=
  s.doneX 4#64 rd (liftX s.cfg.xlen (fun _ a b => a ^^^ b) (s.readX rs1) (s.readX rs2))

/-- `srl` (R183, 40_rvi_compute.md). -/
def execSrl (rd : Reg) (rs1 : Reg) (rs2 : Reg) (s : State) : Outcome :=
  s.doneX 4#64 rd (srlX s.cfg.xlen (s.readX rs1) (shamtX s.cfg.xlen (s.readX rs2)))

/-- `sra` (R179, 40_rvi_compute.md). -/
def execSra (rd : Reg) (rs1 : Reg) (rs2 : Reg) (s : State) : Outcome :=
  s.doneX 4#64 rd (sraX s.cfg.xlen (s.readX rs1) (shamtX s.cfg.xlen (s.readX rs2)))

/-- `or` (R169, 40_rvi_compute.md). -/
def execOr (rd : Reg) (rs1 : Reg) (rs2 : Reg) (s : State) : Outcome :=
  s.doneX 4#64 rd (liftX s.cfg.xlen (fun _ a b => a ||| b) (s.readX rs1) (s.readX rs2))

/-- `and` (R165, 40_rvi_compute.md). -/
def execAnd (rd : Reg) (rs1 : Reg) (rs2 : Reg) (s : State) : Outcome :=
  s.doneX 4#64 rd (liftX s.cfg.xlen (fun _ a b => a &&& b) (s.readX rs1) (s.readX rs2))

/-- `addi` (R162, 40_rvi_compute.md). -/
def execAddi (rd : Reg) (rs1 : Reg) (imm : BitVec 12) (s : State) : Outcome :=
  s.doneX 4#64 rd (liftX s.cfg.xlen (fun _ a b => a + b) (s.readX rs1) (sextX s.cfg.xlen imm))

/-- `slti` (R176, 40_rvi_compute.md). -/
def execSlti (rd : Reg) (rs1 : Reg) (imm : BitVec 12) (s : State) : Outcome :=
  s.doneX 4#64 rd (boolWord (testX s.cfg.xlen (fun _ a b => a.slt b) (s.readX rs1) (sextX
      s.cfg.xlen imm)))

/-- `sltiu` (R177, 40_rvi_compute.md). -/
def execSltiu (rd : Reg) (rs1 : Reg) (imm : BitVec 12) (s : State) : Outcome :=
  s.doneX 4#64 rd (boolWord (testX s.cfg.xlen (fun _ a b => a.ult b) (s.readX rs1) (sextX
      s.cfg.xlen imm)))

/-- `xori` (R190, 40_rvi_compute.md). -/
def execXori (rd : Reg) (rs1 : Reg) (imm : BitVec 12) (s : State) : Outcome :=
  s.doneX 4#64 rd (liftX s.cfg.xlen (fun _ a b => a ^^^ b) (s.readX rs1) (sextX s.cfg.xlen imm))

/-- `ori` (R170, 40_rvi_compute.md). -/
def execOri (rd : Reg) (rs1 : Reg) (imm : BitVec 12) (s : State) : Outcome :=
  s.doneX 4#64 rd (liftX s.cfg.xlen (fun _ a b => a ||| b) (s.readX rs1) (sextX s.cfg.xlen imm))

/-- `andi` (R166, 40_rvi_compute.md). -/
def execAndi (rd : Reg) (rs1 : Reg) (imm : BitVec 12) (s : State) : Outcome :=
  s.doneX 4#64 rd (liftX s.cfg.xlen (fun _ a b => a &&& b) (s.readX rs1) (sextX s.cfg.xlen imm))

/-- `slli` (R172, 40_rvi_compute.md). -/
def execSlli (rd : Reg) (rs1 : Reg) (shamt : BitVec 6) (s : State) : Outcome :=
  s.doneX 4#64 rd (sllX s.cfg.xlen (s.readX rs1) shamt.toNat)

/-- `srli` (R184, 40_rvi_compute.md). -/
def execSrli (rd : Reg) (rs1 : Reg) (shamt : BitVec 6) (s : State) : Outcome :=
  s.doneX 4#64 rd (srlX s.cfg.xlen (s.readX rs1) shamt.toNat)

/-- `srai` (R180, 40_rvi_compute.md). -/
def execSrai (rd : Reg) (rs1 : Reg) (shamt : BitVec 6) (s : State) : Outcome :=
  s.doneX 4#64 rd (sraX s.cfg.xlen (s.readX rs1) shamt.toNat)

/-- `lui` (R168, 40_rvi_compute.md). -/
def execLui (rd : Reg) (imm : BitVec 20) (s : State) : Outcome :=
  s.doneX 4#64 rd (upperImm s.cfg.xlen imm)

/-- `auipc` (R167, 40_rvi_compute.md). -/
def execAuipc (rd : Reg) (imm : BitVec 20) (s : State) : Outcome :=
  s.doneX 4#64 rd (truncX s.cfg.xlen (s.pc + upperImm s.cfg.xlen imm))

/-- `addw` (R164, 40_rvi_compute.md). -/
def execAddw (rd : Reg) (rs1 : Reg) (rs2 : Reg) (s : State) : Outcome :=
  s.doneX 4#64 rd (liftW (fun a b => a + b) (s.readX rs1) (s.readX rs2))

/-- `subw` (R188, 40_rvi_compute.md). -/
def execSubw (rd : Reg) (rs1 : Reg) (rs2 : Reg) (s : State) : Outcome :=
  s.doneX 4#64 rd (liftW (fun a b => a - b) (s.readX rs1) (s.readX rs2))

/-- `sllw` (R174, 40_rvi_compute.md). -/
def execSllw (rd : Reg) (rs1 : Reg) (rs2 : Reg) (s : State) : Outcome :=
  s.doneX 4#64 rd (liftW (fun v _ => v <<< (shamtW (s.readX rs2))) (s.readX rs1) 0#64)

/-- `srlw` (R186, 40_rvi_compute.md). -/
def execSrlw (rd : Reg) (rs1 : Reg) (rs2 : Reg) (s : State) : Outcome :=
  s.doneX 4#64 rd (liftW (fun v _ => v >>> (shamtW (s.readX rs2))) (s.readX rs1) 0#64)

/-- `sraw` (R182, 40_rvi_compute.md). -/
def execSraw (rd : Reg) (rs1 : Reg) (rs2 : Reg) (s : State) : Outcome :=
  s.doneX 4#64 rd (liftW (fun v _ => v.sshiftRight (shamtW (s.readX rs2))) (s.readX rs1) 0#64)

/-- `addiw` (R163, 40_rvi_compute.md). -/
def execAddiw (rd : Reg) (rs1 : Reg) (imm : BitVec 12) (s : State) : Outcome :=
  s.doneX 4#64 rd (liftW (fun a b => a + b) (s.readX rs1) (imm.signExtend 64))

/-- `slliw` (R173, 40_rvi_compute.md). -/
def execSlliw (rd : Reg) (rs1 : Reg) (shamt : BitVec 5) (s : State) : Outcome :=
  s.doneX 4#64 rd (liftW (fun v _ => v <<< shamt.toNat) (s.readX rs1) 0#64)

/-- `srliw` (R185, 40_rvi_compute.md). -/
def execSrliw (rd : Reg) (rs1 : Reg) (shamt : BitVec 5) (s : State) : Outcome :=
  s.doneX 4#64 rd (liftW (fun v _ => v >>> shamt.toNat) (s.readX rs1) 0#64)

/-- `sraiw` (R181, 40_rvi_compute.md). -/
def execSraiw (rd : Reg) (rs1 : Reg) (shamt : BitVec 5) (s : State) : Outcome :=
  s.doneX 4#64 rd (liftW (fun v _ => v.sshiftRight shamt.toNat) (s.readX rs1) 0#64)

end Sys2Proof.Machine
end

