-- ==== Sys2Proof/Machine/LoadStore.lean ====
section
/-! DEFINITION. Loads, stores and fences (R210 to R227, 41_rvi_control_mem.md), and the floating-point loads and stores
(R379, R380, 45_rvf.md; R435, R436, 46_rvd.md). -/

namespace Sys2Proof.Machine

open Sys2Proof

/-- `lb` (R211, 41_rvi_control_mem.md). -/
def execLb (rd : Reg) (rs1 : Reg) (off : BitVec 12) (s : State) : Outcome :=
  s.load 4#64 (s.ea (s.readX rs1) (off.signExtend 64)) 1 fun v t => t.setX rd (sextX s.cfg.xlen
      (BitVec.ofNat 8 v))

/-- `lh` (R213, 41_rvi_control_mem.md). -/
def execLh (rd : Reg) (rs1 : Reg) (off : BitVec 12) (s : State) : Outcome :=
  s.load 4#64 (s.ea (s.readX rs1) (off.signExtend 64)) 2 fun v t => t.setX rd (sextX s.cfg.xlen
      (BitVec.ofNat 16 v))

/-- `lw` (R215, 41_rvi_control_mem.md). -/
def execLw (rd : Reg) (rs1 : Reg) (off : BitVec 12) (s : State) : Outcome :=
  s.load 4#64 (s.ea (s.readX rs1) (off.signExtend 64)) 4 fun v t => t.setX rd (sextX s.cfg.xlen
      (BitVec.ofNat 32 v))

/-- `ld` (R217, 41_rvi_control_mem.md). -/
def execLd (rd : Reg) (rs1 : Reg) (off : BitVec 12) (s : State) : Outcome :=
  s.load 4#64 (s.ea (s.readX rs1) (off.signExtend 64)) 8 fun v t => t.setX rd (BitVec.ofNat 64 v)

/-- `lbu` (R212, 41_rvi_control_mem.md). -/
def execLbu (rd : Reg) (rs1 : Reg) (off : BitVec 12) (s : State) : Outcome :=
  s.load 4#64 (s.ea (s.readX rs1) (off.signExtend 64)) 1 fun v t => t.setX rd (BitVec.ofNat 64 v)

/-- `lhu` (R214, 41_rvi_control_mem.md). -/
def execLhu (rd : Reg) (rs1 : Reg) (off : BitVec 12) (s : State) : Outcome :=
  s.load 4#64 (s.ea (s.readX rs1) (off.signExtend 64)) 2 fun v t => t.setX rd (BitVec.ofNat 64 v)

/-- `lwu` (R216, 41_rvi_control_mem.md). -/
def execLwu (rd : Reg) (rs1 : Reg) (off : BitVec 12) (s : State) : Outcome :=
  s.load 4#64 (s.ea (s.readX rs1) (off.signExtend 64)) 4 fun v t => t.setX rd (BitVec.ofNat 64 v)

/-- `sb` (R219, 41_rvi_control_mem.md). -/
def execSb (rs1 : Reg) (rs2 : Reg) (off : BitVec 12) (s : State) : Outcome :=
  s.store 4#64 (s.ea (s.readX rs1) (off.signExtend 64)) 1 (s.readX rs2)

/-- `sh` (R220, 41_rvi_control_mem.md). -/
def execSh (rs1 : Reg) (rs2 : Reg) (off : BitVec 12) (s : State) : Outcome :=
  s.store 4#64 (s.ea (s.readX rs1) (off.signExtend 64)) 2 (s.readX rs2)

/-- `sw` (R221, 41_rvi_control_mem.md). -/
def execSw (rs1 : Reg) (rs2 : Reg) (off : BitVec 12) (s : State) : Outcome :=
  s.store 4#64 (s.ea (s.readX rs1) (off.signExtend 64)) 4 (s.readX rs2)

/-- `sd` (R222, 41_rvi_control_mem.md). -/
def execSd (rs1 : Reg) (rs2 : Reg) (off : BitVec 12) (s : State) : Outcome :=
  s.store 4#64 (s.ea (s.readX rs1) (off.signExtend 64)) 8 (s.readX rs2)

/-- `fence` (R226, 41_rvi_control_mem.md). -/
def execFence (_pred : BitVec 4) (_succ : BitVec 4) (s : State) : Outcome :=
  .next (s.advance 4#64)

/-- `fence.i` (R227, 41_rvi_control_mem.md). -/
def execFenceI (s : State) : Outcome :=
  .next ({ s with stale := [] }.advance 4#64)

/-- `flw` (R379, 45_rvf.md). -/
def execFlw (rd : Reg) (rs1 : Reg) (off : BitVec 12) (s : State) : Outcome :=
  s.load 4#64 (s.ea (s.readX rs1) (off.signExtend 64)) 4 fun v t => t.setS rd (BitVec.ofNat 32 v)

/-- `fld` (R435, 46_rvd.md). -/
def execFld (rd : Reg) (rs1 : Reg) (off : BitVec 12) (s : State) : Outcome :=
  s.load 4#64 (s.ea (s.readX rs1) (off.signExtend 64)) 8 fun v t => t.setF rd (BitVec.ofNat 64 v)

/-- `fsw` (R380, 45_rvf.md). -/
def execFsw (rs1 : Reg) (rs2 : Reg) (off : BitVec 12) (s : State) : Outcome :=
  s.store 4#64 (s.ea (s.readX rs1) (off.signExtend 64)) 4 (s.readF rs2)

/-- `fsd` (R436, 46_rvd.md). -/
def execFsd (rs1 : Reg) (rs2 : Reg) (off : BitVec 12) (s : State) : Outcome :=
  s.store 4#64 (s.ea (s.readX rs1) (off.signExtend 64)) 8 (s.readF rs2)

end Sys2Proof.Machine
end

