-- ==== Sys2Proof/Machine/Csr.lean ====
section
/-! DEFINITION. The control and status registers: their addresses (R45, R54, 10_state.md), what each reads as
and how each is written (R46 to R50, 10_state.md; R601, 60_exceptions.md), and the access rules common to
the six CSR instructions (R240, 42_system.md). -/

namespace Sys2Proof.Machine

open Sys2Proof

/-- The CSRs of R45 and R54 (10_state.md). -/
inductive Csr where
  | fflags
  | frm
  | fcsr
  | counter (c : Counter)
  | counterHigh (c : Counter)
  | sstatus
  | sepc
  | mstatus
  | mepc
  | mtvec
  | mcause
  | mtval
  | mscratch
  | mie
  | mip
  deriving DecidableEq, Repr

/-- The CSR at an address, by CSRMAP (R45, R54, 10_state.md). -/
def csrNamed (a : BitVec 12) : Option Csr :=
  match a with
  | 0x001#12 => some .fflags
  | 0x002#12 => some .frm
  | 0x003#12 => some .fcsr
  | 0xC00#12 => some (.counter .cycle)
  | 0xC01#12 => some (.counter .time)
  | 0xC02#12 => some (.counter .instret)
  | 0xC80#12 => some (.counterHigh .cycle)
  | 0xC81#12 => some (.counterHigh .time)
  | 0xC82#12 => some (.counterHigh .instret)
  | 0x100#12 => some .sstatus
  | 0x141#12 => some .sepc
  | 0x300#12 => some .mstatus
  | 0x341#12 => some .mepc
  | 0x305#12 => some .mtvec
  | 0x342#12 => some .mcause
  | 0x343#12 => some .mtval
  | 0x340#12 => some .mscratch
  | 0x304#12 => some .mie
  | 0x344#12 => some .mip
  | _ => none

/-- Whether a CSR exists with these parameters (the last column of R45; R54, 10_state.md). -/
def csrExists (cfg : Config) : Csr → Bool
  | .fflags => cfg.hasF
  | .frm => cfg.hasF
  | .fcsr => cfg.hasF
  | .counter _ => true
  | .counterHigh _ => cfg.xlen == .rv32
  | .sstatus => cfg.modes.has .supervisor
  | .sepc => cfg.modes.has .supervisor
  | .mstatus => true
  | .mepc => true
  | .mtvec => cfg.trap == .machine
  | .mcause => cfg.trap == .machine
  | .mtval => cfg.trap == .machine
  | .mscratch => cfg.trap == .machine
  | .mie => cfg.trap == .machine
  | .mip => cfg.trap == .machine

/-- The CSR at an address that exists with these parameters (R240 a, 42_system.md). -/
def csrAt (cfg : Config) (a : BitVec 12) : Option Csr :=
  match csrNamed a with
  | some c => if csrExists cfg c then some c else none
  | none => none

/-- A bit at a position of a register. -/
def bitAt (b : Bool) (i : Nat) : Word := (boolWord b) <<< i

/-- The bits of `mstatus` that the model holds: 1, 3, 5, 7, 8, 11 and 12 (R48, 10_state.md). -/
def mstatusMask : Word := 0x19AA#64

/-- The bits of `sstatus` that the model holds: 1, 5 and 8 (R49, 10_state.md). -/
def sstatusMask : Word := 0x122#64

/-- The named fields of `sstatus` at their places (R49, 10_state.md). -/
def State.sstatusFields (s : State) : Word := bitAt s.sie 1 ||| bitAt s.spie 5 ||| bitAt s.spp 8

/-- The named fields of `mstatus` at their places (R48, 10_state.md). -/
def State.mstatusFields (s : State) : Word :=
  s.sstatusFields ||| bitAt s.mie 3 ||| bitAt s.mpie 7 ||| (privCode s.mpp).setWidth 64 <<< 11

/-- `mip` and `mie` as words: bits 11, 7 and 3, the rest zero (R601, 60_exceptions.md). -/
def IrqBits.word (b : IrqBits) : Word := bitAt b.external 11 ||| bitAt b.timer 7 ||| bitAt b.software 3

/-- Bits 11, 7 and 3 of a word. -/
def irqBitsOf (v : Word) : IrqBits := { external := v[11], timer := v[7], software := v[3] }

/-- What a CSR reads as, at most XLEN bits (R46 to R50, R54, 10_state.md; logs 12, 13). -/
def State.csrValue (s : State) : Csr → Word
  | .fflags => s.fflags.setWidth 64
  | .frm => s.frm.setWidth 64
  | .fcsr => s.fcsr.setWidth 64
  | .counter c => Config.freeCounter c s.tick
  | .counterHigh c => (Config.freeCounterHigh c s.tick).setWidth 64
  | .sstatus => (Config.freeSstatus s.tick &&& ~~~sstatusMask) ||| s.sstatusFields
  | .sepc => maskEpc s.cfg s.sepc
  | .mstatus => (Config.freeMstatus s.tick &&& ~~~mstatusMask) ||| s.mstatusFields
  | .mepc => maskEpc s.cfg s.mepc
  | .mtvec => s.mtvec
  | .mcause => s.mcause
  | .mtval => s.mtval
  | .mscratch => s.mscratch
  | .mie => s.irqEnable.word
  | .mip => s.irqPending.word

/-- Reading a CSR (R240 e, 42_system.md). -/
def State.readCsr (s : State) (c : Csr) : Word := truncX s.cfg.xlen (s.csrValue c)

/-- Writing a CSR through its own write rule (R240 f, 42_system.md; log 26). -/
def State.writeCsr (s : State) (c : Csr) (v : Word) : State :=
  match c with
  | .fflags => { s with fcsr := s.frm ++ v.extractLsb' 0 5 }
  | .frm => { s with fcsr := v.extractLsb' 0 3 ++ s.fflags }
  | .fcsr => { s with fcsr := v.extractLsb' 0 8 }
  | .counter _ => s
  | .counterHigh _ => s
  | .sstatus => { s with sie := v[1], spie := v[5], spp := v[8] }
  | .sepc => { s with sepc := maskEpc s.cfg v }
  | .mstatus =>
    { s with
      sie := v[1], mie := v[3], spie := v[5], mpie := v[7], spp := v[8]
      mpp := legalMpp s.cfg.modes s.tick (v.extractLsb' 11 2) }
  | .mepc => { s with mepc := maskEpc s.cfg v }
  | .mtvec => { s with mtvec := truncX s.cfg.xlen v }
  | .mcause => { s with mcause := truncX s.cfg.xlen v }
  | .mtval => { s with mtval := truncX s.cfg.xlen v }
  | .mscratch => { s with mscratch := truncX s.cfg.xlen v }
  | .mie => { s with irqEnable := irqBitsOf v }
  | .mip => s

/-- Whether the privilege and read-only rules allow an access to a CSR address (R240 b, d, 42_system.md). -/
def csrAllowed (priv : Priv) (a : BitVec 12) (writes : Bool) : Bool :=
  !(privCode priv).ult (a.extractLsb' 8 2) && !(writes && a.extractLsb' 10 2 == 0b11#2)

/-- The CSR an instruction may access, if the checks of R240 (42_system.md) pass. -/
def State.csrFor (s : State) (a : BitVec 12) (writes : Bool) : Option Csr :=
  match csrAt s.cfg a with
  | some c => if csrAllowed s.priv a writes then some c else none
  | none => none

/-- A CSR instruction: the checks, then the read and the write as one action (R240, 42_system.md). `new` is
the value to write from the old one. -/
def State.csrOp (s : State) (i : Instr) (rd : Reg) (a : BitVec 12) (writes : Bool) (new : Word → Word) :
    Outcome :=
  match s.csrFor a writes with
  | none => s.raise (.illegal (i.word s.cfg.xlen))
  | some c =>
    let t := s.readCsr c
    let s' := if writes then s.writeCsr c (new t) else s
    s'.doneX 4#64 rd t

end Sys2Proof.Machine
end

