-- ==== Sys2Proof/Machine/System.lean ====
section
/-! DEFINITION. The system instructions (R240 to R252, 42_system.md). -/

namespace Sys2Proof.Machine

open Sys2Proof

/-- `csrrw` (R241, 42_system.md). -/
def execCsrrw (rd : Reg) (csr : BitVec 12) (rs1 : Reg) (s : State) : Outcome :=
  s.csrOp (.csrrw rd csr rs1) rd csr (true) fun _ => s.readX rs1

/-- `csrrs` (R242, 42_system.md). -/
def execCsrrs (rd : Reg) (csr : BitVec 12) (rs1 : Reg) (s : State) : Outcome :=
  s.csrOp (.csrrs rd csr rs1) rd csr (rs1 != 0#5) fun t => t ||| s.readX rs1

/-- `csrrc` (R243, 42_system.md). -/
def execCsrrc (rd : Reg) (csr : BitVec 12) (rs1 : Reg) (s : State) : Outcome :=
  s.csrOp (.csrrc rd csr rs1) rd csr (rs1 != 0#5) fun t => t &&& ~~~(s.readX rs1)

/-- `csrrwi` (R244, 42_system.md). -/
def execCsrrwi (rd : Reg) (csr : BitVec 12) (zimm : BitVec 5) (s : State) : Outcome :=
  s.csrOp (.csrrwi rd csr zimm) rd csr (true) fun _ => zimm.setWidth 64

/-- `csrrsi` (R245, 42_system.md). -/
def execCsrrsi (rd : Reg) (csr : BitVec 12) (zimm : BitVec 5) (s : State) : Outcome :=
  s.csrOp (.csrrsi rd csr zimm) rd csr (zimm != 0#5) fun t => t ||| zimm.setWidth 64

/-- `csrrci` (R246, 42_system.md). -/
def execCsrrci (rd : Reg) (csr : BitVec 12) (zimm : BitVec 5) (s : State) : Outcome :=
  s.csrOp (.csrrci rd csr zimm) rd csr (zimm != 0#5) fun t => t &&& ~~~(zimm.setWidth 64)

/-- `ecall` (R247, 42_system.md). -/
def execEcall (s : State) : Outcome :=
  s.raise (.envCall s.priv)

/-- `ebreak` (R248, 42_system.md). -/
def execEbreak (s : State) : Outcome :=
  s.raise (.breakpoint s.pc)

/-- `mret` (R249, 42_system.md). -/
def execMret (s : State) : Outcome :=
  if s.priv = .machine then .next s.returnM else s.raise (.illegal (Instr.mret.word s.cfg.xlen))

/-- `sret` (R250, 42_system.md). -/
def execSret (s : State) : Outcome :=
  if s.cfg.modes.has .supervisor = true ∧ s.priv ≠ .user then .next s.returnS
  else s.raise (.illegal (Instr.sret.word s.cfg.xlen))

/-- `wfi` (R251, 42_system.md). -/
def execWfi (s : State) : Outcome :=
  .next (if s.pendingIrq = none ∧ Config.freeWfiIdles s.tick = true then { s with idle := true }
    else s.advance 4#64)

/-- `sfence.vma` (R252, 42_system.md). -/
def execSfenceVma (rs1 : Reg) (rs2 : Reg) (s : State) : Outcome :=
  if s.cfg.modes.has .supervisor = true ∧ s.priv ≠ .user then .next (s.advance 4#64)
  else s.raise (.illegal ((Instr.sfence_vma rs1 rs2).word s.cfg.xlen))

end Sys2Proof.Machine
end

