-- ==== Sys2Proof/Machine/Pseudo.lean ====
section
/-! DEFINITION. The pseudoinstructions (R515 to R567, 48_pseudo.md): by R510 the behaviour of each is that of its expansion
run as ordinary instructions. Decoding never yields one (R154, 30_encoding.md), so no step runs one (log 23). -/

namespace Sys2Proof.Machine

open Sys2Proof

/-- One instruction of the expansion of `li` (R513, 48_pseudo.md). -/
def runLiStep (rd : Reg) (step : LiStep) (s : State) : Outcome :=
  match step with
  | .small imm => execAddi rd 0#5 imm s
  | .upper imm => execLui rd imm s
  | .add imm => execAddi rd rd imm s
  | .addw imm => execAddiw rd rd imm s
  | .shift => execSlli rd rd 12#6 s

/-- The expansion of `li`, one instruction after another (R510, R513, 48_pseudo.md). -/
def runLi (rd : Reg) (steps : List LiStep) (s : State) : Outcome :=
  match steps with
  | [] => .next s
  | step :: rest => andThen (runLiStep rd step s) (runLi rd rest)

/-- `beqz` (R515, 48_pseudo.md). -/
def execBeqz (rs1 : Reg) (off : BitVec 12) (s : State) : Outcome :=
  execBeq rs1 0#5 off s

/-- `bgez` (R516, 48_pseudo.md). -/
def execBgez (rs1 : Reg) (off : BitVec 12) (s : State) : Outcome :=
  execBge rs1 0#5 off s

/-- `bgt` (R517, 48_pseudo.md). -/
def execBgt (rs1 : Reg) (rs2 : Reg) (off : BitVec 12) (s : State) : Outcome :=
  execBlt rs2 rs1 off s

/-- `bgtu` (R518, 48_pseudo.md). -/
def execBgtu (rs1 : Reg) (rs2 : Reg) (off : BitVec 12) (s : State) : Outcome :=
  execBltu rs2 rs1 off s

/-- `bgtz` (R519, 48_pseudo.md). -/
def execBgtz (rs2 : Reg) (off : BitVec 12) (s : State) : Outcome :=
  execBlt 0#5 rs2 off s

/-- `ble` (R520, 48_pseudo.md). -/
def execBle (rs1 : Reg) (rs2 : Reg) (off : BitVec 12) (s : State) : Outcome :=
  execBge rs2 rs1 off s

/-- `bleu` (R521, 48_pseudo.md). -/
def execBleu (rs1 : Reg) (rs2 : Reg) (off : BitVec 12) (s : State) : Outcome :=
  execBgeu rs2 rs1 off s

/-- `blez` (R522, 48_pseudo.md). -/
def execBlez (rs2 : Reg) (off : BitVec 12) (s : State) : Outcome :=
  execBge 0#5 rs2 off s

/-- `bltz` (R523, 48_pseudo.md). -/
def execBltz (rs1 : Reg) (off : BitVec 12) (s : State) : Outcome :=
  execBlt rs1 0#5 off s

/-- `bnez` (R524, 48_pseudo.md). -/
def execBnez (rs1 : Reg) (off : BitVec 12) (s : State) : Outcome :=
  execBne rs1 0#5 off s

/-- `call` (R525, 48_pseudo.md). -/
def execCall (rd : Reg) (hi : BitVec 20) (lo : BitVec 12) (s : State) : Outcome :=
  andThen (execAuipc rd hi s) (execJalr rd rd lo)

/-- `csrc` (R527, 48_pseudo.md). -/
def execCsrc (csr : BitVec 12) (rs1 : Reg) (s : State) : Outcome :=
  execCsrrc 0#5 csr rs1 s

/-- `csrci` (R528, 48_pseudo.md). -/
def execCsrci (csr : BitVec 12) (zimm : BitVec 5) (s : State) : Outcome :=
  execCsrrci 0#5 csr zimm s

/-- `csrr` (R526, 48_pseudo.md). -/
def execCsrr (rd : Reg) (csr : BitVec 12) (s : State) : Outcome :=
  execCsrrs rd csr 0#5 s

/-- `csrs` (R529, 48_pseudo.md). -/
def execCsrs (csr : BitVec 12) (rs1 : Reg) (s : State) : Outcome :=
  execCsrrs 0#5 csr rs1 s

/-- `csrsi` (R530, 48_pseudo.md). -/
def execCsrsi (csr : BitVec 12) (zimm : BitVec 5) (s : State) : Outcome :=
  execCsrrsi 0#5 csr zimm s

/-- `csrw` (R531, 48_pseudo.md). -/
def execCsrw (csr : BitVec 12) (rs1 : Reg) (s : State) : Outcome :=
  execCsrrw 0#5 csr rs1 s

/-- `csrwi` (R532, 48_pseudo.md). -/
def execCsrwi (csr : BitVec 12) (zimm : BitVec 5) (s : State) : Outcome :=
  execCsrrwi 0#5 csr zimm s

/-- `fabs.d` (R533, 48_pseudo.md). -/
def execFabsD (rd : Reg) (rs1 : Reg) (s : State) : Outcome :=
  execFsgnjxD rd rs1 rs1 s

/-- `fabs.s` (R534, 48_pseudo.md). -/
def execFabsS (rd : Reg) (rs1 : Reg) (s : State) : Outcome :=
  execFsgnjxS rd rs1 rs1 s

/-- `fmv.d` (R535, 48_pseudo.md). -/
def execFmvD (rd : Reg) (rs1 : Reg) (s : State) : Outcome :=
  execFsgnjD rd rs1 rs1 s

/-- `fmv.s` (R536, 48_pseudo.md). -/
def execFmvS (rd : Reg) (rs1 : Reg) (s : State) : Outcome :=
  execFsgnjS rd rs1 rs1 s

/-- `fneg.d` (R537, 48_pseudo.md). -/
def execFnegD (rd : Reg) (rs1 : Reg) (s : State) : Outcome :=
  execFsgnjnD rd rs1 rs1 s

/-- `fneg.s` (R538, 48_pseudo.md). -/
def execFnegS (rd : Reg) (rs1 : Reg) (s : State) : Outcome :=
  execFsgnjnS rd rs1 rs1 s

/-- `frcsr` (R539, 48_pseudo.md). -/
def execFrcsr (rd : Reg) (s : State) : Outcome :=
  execCsrrs rd 0x003#12 0#5 s

/-- `frflags` (R540, 48_pseudo.md). -/
def execFrflags (rd : Reg) (s : State) : Outcome :=
  execCsrrs rd 0x001#12 0#5 s

/-- `frrm` (R541, 48_pseudo.md). -/
def execFrrm (rd : Reg) (s : State) : Outcome :=
  execCsrrs rd 0x002#12 0#5 s

/-- `fscsr` (R542, 48_pseudo.md). -/
def execFscsr (rd : Reg) (rs1 : Reg) (s : State) : Outcome :=
  execCsrrw rd 0x003#12 rs1 s

/-- `fsflags` (R543, 48_pseudo.md). -/
def execFsflags (rd : Reg) (rs1 : Reg) (s : State) : Outcome :=
  execCsrrw rd 0x001#12 rs1 s

/-- `fsrm` (R544, 48_pseudo.md). -/
def execFsrm (rd : Reg) (rs1 : Reg) (s : State) : Outcome :=
  execCsrrw rd 0x002#12 rs1 s

/-- `j` (R545, 48_pseudo.md). -/
def execJ (off : BitVec 20) (s : State) : Outcome :=
  execJal 0#5 off s

/-- `jr` (R546, 48_pseudo.md). -/
def execJr (rs1 : Reg) (s : State) : Outcome :=
  execJalr 0#5 rs1 0#12 s

/-- `la` (R547, 48_pseudo.md). -/
def execLa (rd : Reg) (got : Bool) (hi : BitVec 20) (lo : BitVec 12) (s : State) : Outcome :=
  andThen (execAuipc rd hi s) fun t =>
    if got then
      match s.cfg.xlen with
      | .rv32 => execLw rd rd lo t
      | .rv64 => execLd rd rd lo t
    else execAddi rd rd lo t

/-- `li` (R548, 48_pseudo.md). -/
def execLi (rd : Reg) (imm : Word) (s : State) : Outcome :=
  runLi rd (liSteps s.cfg.xlen imm) s

/-- `lla` (R549, 48_pseudo.md). -/
def execLla (rd : Reg) (hi : BitVec 20) (lo : BitVec 12) (s : State) : Outcome :=
  andThen (execAuipc rd hi s) (execAddi rd rd lo)

/-- `mv` (R550, 48_pseudo.md). -/
def execMv (rd : Reg) (rs1 : Reg) (s : State) : Outcome :=
  execAddi rd rs1 0#12 s

/-- `neg` (R551, 48_pseudo.md). -/
def execNeg (rd : Reg) (rs2 : Reg) (s : State) : Outcome :=
  execSub rd 0#5 rs2 s

/-- `negw` (R552, 48_pseudo.md). -/
def execNegw (rd : Reg) (rs2 : Reg) (s : State) : Outcome :=
  execSubw rd 0#5 rs2 s

/-- `nop` (R553, 48_pseudo.md). -/
def execNop (s : State) : Outcome :=
  execAddi 0#5 0#5 0#12 s

/-- `not` (R554, 48_pseudo.md). -/
def execNot (rd : Reg) (rs1 : Reg) (s : State) : Outcome :=
  execXori rd rs1 0xfff#12 s

/-- `rdcycle` (R555, 48_pseudo.md). -/
def execRdcycle (rd : Reg) (s : State) : Outcome :=
  execCsrrs rd 0xc00#12 0#5 s

/-- `rdcycleh` (R556, 48_pseudo.md). -/
def execRdcycleh (rd : Reg) (s : State) : Outcome :=
  execCsrrs rd 0xc80#12 0#5 s

/-- `rdinstret` (R557, 48_pseudo.md). -/
def execRdinstret (rd : Reg) (s : State) : Outcome :=
  execCsrrs rd 0xc02#12 0#5 s

/-- `rdinstreth` (R558, 48_pseudo.md). -/
def execRdinstreth (rd : Reg) (s : State) : Outcome :=
  execCsrrs rd 0xc82#12 0#5 s

/-- `rdtime` (R559, 48_pseudo.md). -/
def execRdtime (rd : Reg) (s : State) : Outcome :=
  execCsrrs rd 0xc01#12 0#5 s

/-- `rdtimeh` (R560, 48_pseudo.md). -/
def execRdtimeh (rd : Reg) (s : State) : Outcome :=
  execCsrrs rd 0xc81#12 0#5 s

/-- `ret` (R561, 48_pseudo.md). -/
def execRet (s : State) : Outcome :=
  execJalr 0#5 1#5 0#12 s

/-- `seqz` (R562, 48_pseudo.md). -/
def execSeqz (rd : Reg) (rs1 : Reg) (s : State) : Outcome :=
  execSltiu rd rs1 1#12 s

/-- `sext.w` (R563, 48_pseudo.md). -/
def execSextW (rd : Reg) (rs1 : Reg) (s : State) : Outcome :=
  execAddiw rd rs1 0#12 s

/-- `sgtz` (R564, 48_pseudo.md). -/
def execSgtz (rd : Reg) (rs2 : Reg) (s : State) : Outcome :=
  execSlt rd 0#5 rs2 s

/-- `sltz` (R565, 48_pseudo.md). -/
def execSltz (rd : Reg) (rs1 : Reg) (s : State) : Outcome :=
  execSlt rd rs1 0#5 s

/-- `snez` (R566, 48_pseudo.md). -/
def execSnez (rd : Reg) (rs2 : Reg) (s : State) : Outcome :=
  execSltu rd 0#5 rs2 s

/-- `tail` (R567, 48_pseudo.md). -/
def execTail (hi : BitVec 20) (lo : BitVec 12) (s : State) : Outcome :=
  andThen (execAuipc 6#5 hi s) (execJalr 0#5 6#5 lo)

end Sys2Proof.Machine
end

