-- ==== Sys2Proof/Machine/Dispatch.lean ====
section
/-! DEFINITION. The one case split on an instruction: every constructor calls its own meaning. -/

namespace Sys2Proof.Machine

open Sys2Proof

def exec (i : Instr) (s : State) : Host.Outcome State Fault Refusal :=
  match i with
  | .add rd rs1 rs2 => Sys2Proof.Machine.execAdd rd rs1 rs2 s
  | .sub rd rs1 rs2 => Sys2Proof.Machine.execSub rd rs1 rs2 s
  | .sll rd rs1 rs2 => Sys2Proof.Machine.execSll rd rs1 rs2 s
  | .slt rd rs1 rs2 => Sys2Proof.Machine.execSlt rd rs1 rs2 s
  | .sltu rd rs1 rs2 => Sys2Proof.Machine.execSltu rd rs1 rs2 s
  | .xor rd rs1 rs2 => Sys2Proof.Machine.execXor rd rs1 rs2 s
  | .srl rd rs1 rs2 => Sys2Proof.Machine.execSrl rd rs1 rs2 s
  | .sra rd rs1 rs2 => Sys2Proof.Machine.execSra rd rs1 rs2 s
  | .or rd rs1 rs2 => Sys2Proof.Machine.execOr rd rs1 rs2 s
  | .and rd rs1 rs2 => Sys2Proof.Machine.execAnd rd rs1 rs2 s
  | .addi rd rs1 imm => Sys2Proof.Machine.execAddi rd rs1 imm s
  | .slti rd rs1 imm => Sys2Proof.Machine.execSlti rd rs1 imm s
  | .sltiu rd rs1 imm => Sys2Proof.Machine.execSltiu rd rs1 imm s
  | .xori rd rs1 imm => Sys2Proof.Machine.execXori rd rs1 imm s
  | .ori rd rs1 imm => Sys2Proof.Machine.execOri rd rs1 imm s
  | .andi rd rs1 imm => Sys2Proof.Machine.execAndi rd rs1 imm s
  | .slli rd rs1 shamt => Sys2Proof.Machine.execSlli rd rs1 shamt s
  | .srli rd rs1 shamt => Sys2Proof.Machine.execSrli rd rs1 shamt s
  | .srai rd rs1 shamt => Sys2Proof.Machine.execSrai rd rs1 shamt s
  | .lui rd imm => Sys2Proof.Machine.execLui rd imm s
  | .auipc rd imm => Sys2Proof.Machine.execAuipc rd imm s
  | .addw rd rs1 rs2 => Sys2Proof.Machine.execAddw rd rs1 rs2 s
  | .subw rd rs1 rs2 => Sys2Proof.Machine.execSubw rd rs1 rs2 s
  | .sllw rd rs1 rs2 => Sys2Proof.Machine.execSllw rd rs1 rs2 s
  | .srlw rd rs1 rs2 => Sys2Proof.Machine.execSrlw rd rs1 rs2 s
  | .sraw rd rs1 rs2 => Sys2Proof.Machine.execSraw rd rs1 rs2 s
  | .addiw rd rs1 imm => Sys2Proof.Machine.execAddiw rd rs1 imm s
  | .slliw rd rs1 shamt => Sys2Proof.Machine.execSlliw rd rs1 shamt s
  | .srliw rd rs1 shamt => Sys2Proof.Machine.execSrliw rd rs1 shamt s
  | .sraiw rd rs1 shamt => Sys2Proof.Machine.execSraiw rd rs1 shamt s
  | .beq rs1 rs2 off => Sys2Proof.Machine.execBeq rs1 rs2 off s
  | .bne rs1 rs2 off => Sys2Proof.Machine.execBne rs1 rs2 off s
  | .blt rs1 rs2 off => Sys2Proof.Machine.execBlt rs1 rs2 off s
  | .bge rs1 rs2 off => Sys2Proof.Machine.execBge rs1 rs2 off s
  | .bltu rs1 rs2 off => Sys2Proof.Machine.execBltu rs1 rs2 off s
  | .bgeu rs1 rs2 off => Sys2Proof.Machine.execBgeu rs1 rs2 off s
  | .jal rd off => Sys2Proof.Machine.execJal rd off s
  | .jalr rd rs1 off => Sys2Proof.Machine.execJalr rd rs1 off s
  | .lb rd rs1 off => Sys2Proof.Machine.execLb rd rs1 off s
  | .lh rd rs1 off => Sys2Proof.Machine.execLh rd rs1 off s
  | .lw rd rs1 off => Sys2Proof.Machine.execLw rd rs1 off s
  | .ld rd rs1 off => Sys2Proof.Machine.execLd rd rs1 off s
  | .lbu rd rs1 off => Sys2Proof.Machine.execLbu rd rs1 off s
  | .lhu rd rs1 off => Sys2Proof.Machine.execLhu rd rs1 off s
  | .lwu rd rs1 off => Sys2Proof.Machine.execLwu rd rs1 off s
  | .sb rs1 rs2 off => Sys2Proof.Machine.execSb rs1 rs2 off s
  | .sh rs1 rs2 off => Sys2Proof.Machine.execSh rs1 rs2 off s
  | .sw rs1 rs2 off => Sys2Proof.Machine.execSw rs1 rs2 off s
  | .sd rs1 rs2 off => Sys2Proof.Machine.execSd rs1 rs2 off s
  | .fence pred succ => Sys2Proof.Machine.execFence pred succ s
  | .fence_i => Sys2Proof.Machine.execFenceI s
  | .csrrw rd csr rs1 => Sys2Proof.Machine.execCsrrw rd csr rs1 s
  | .csrrs rd csr rs1 => Sys2Proof.Machine.execCsrrs rd csr rs1 s
  | .csrrc rd csr rs1 => Sys2Proof.Machine.execCsrrc rd csr rs1 s
  | .csrrwi rd csr zimm => Sys2Proof.Machine.execCsrrwi rd csr zimm s
  | .csrrsi rd csr zimm => Sys2Proof.Machine.execCsrrsi rd csr zimm s
  | .csrrci rd csr zimm => Sys2Proof.Machine.execCsrrci rd csr zimm s
  | .ecall => Sys2Proof.Machine.execEcall s
  | .ebreak => Sys2Proof.Machine.execEbreak s
  | .mret => Sys2Proof.Machine.execMret s
  | .sret => Sys2Proof.Machine.execSret s
  | .wfi => Sys2Proof.Machine.execWfi s
  | .sfence_vma rs1 rs2 => Sys2Proof.Machine.execSfenceVma rs1 rs2 s
  | .mul rd rs1 rs2 => Sys2Proof.Machine.execMul rd rs1 rs2 s
  | .mulh rd rs1 rs2 => Sys2Proof.Machine.execMulh rd rs1 rs2 s
  | .mulhsu rd rs1 rs2 => Sys2Proof.Machine.execMulhsu rd rs1 rs2 s
  | .mulhu rd rs1 rs2 => Sys2Proof.Machine.execMulhu rd rs1 rs2 s
  | .div rd rs1 rs2 => Sys2Proof.Machine.execDiv rd rs1 rs2 s
  | .divu rd rs1 rs2 => Sys2Proof.Machine.execDivu rd rs1 rs2 s
  | .rem rd rs1 rs2 => Sys2Proof.Machine.execRem rd rs1 rs2 s
  | .remu rd rs1 rs2 => Sys2Proof.Machine.execRemu rd rs1 rs2 s
  | .mulw rd rs1 rs2 => Sys2Proof.Machine.execMulw rd rs1 rs2 s
  | .divw rd rs1 rs2 => Sys2Proof.Machine.execDivw rd rs1 rs2 s
  | .divuw rd rs1 rs2 => Sys2Proof.Machine.execDivuw rd rs1 rs2 s
  | .remw rd rs1 rs2 => Sys2Proof.Machine.execRemw rd rs1 rs2 s
  | .remuw rd rs1 rs2 => Sys2Proof.Machine.execRemuw rd rs1 rs2 s
  | .lr_w rd rs1 aq rl => Sys2Proof.Machine.execLrW rd rs1 aq rl s
  | .lr_d rd rs1 aq rl => Sys2Proof.Machine.execLrD rd rs1 aq rl s
  | .sc_w rd rs1 rs2 aq rl => Sys2Proof.Machine.execScW rd rs1 rs2 aq rl s
  | .sc_d rd rs1 rs2 aq rl => Sys2Proof.Machine.execScD rd rs1 rs2 aq rl s
  | .amoswap_w rd rs1 rs2 aq rl => Sys2Proof.Machine.execAmoswapW rd rs1 rs2 aq rl s
  | .amoswap_d rd rs1 rs2 aq rl => Sys2Proof.Machine.execAmoswapD rd rs1 rs2 aq rl s
  | .amoadd_w rd rs1 rs2 aq rl => Sys2Proof.Machine.execAmoaddW rd rs1 rs2 aq rl s
  | .amoadd_d rd rs1 rs2 aq rl => Sys2Proof.Machine.execAmoaddD rd rs1 rs2 aq rl s
  | .amoxor_w rd rs1 rs2 aq rl => Sys2Proof.Machine.execAmoxorW rd rs1 rs2 aq rl s
  | .amoxor_d rd rs1 rs2 aq rl => Sys2Proof.Machine.execAmoxorD rd rs1 rs2 aq rl s
  | .amoand_w rd rs1 rs2 aq rl => Sys2Proof.Machine.execAmoandW rd rs1 rs2 aq rl s
  | .amoand_d rd rs1 rs2 aq rl => Sys2Proof.Machine.execAmoandD rd rs1 rs2 aq rl s
  | .amoor_w rd rs1 rs2 aq rl => Sys2Proof.Machine.execAmoorW rd rs1 rs2 aq rl s
  | .amoor_d rd rs1 rs2 aq rl => Sys2Proof.Machine.execAmoorD rd rs1 rs2 aq rl s
  | .amomin_w rd rs1 rs2 aq rl => Sys2Proof.Machine.execAmominW rd rs1 rs2 aq rl s
  | .amomin_d rd rs1 rs2 aq rl => Sys2Proof.Machine.execAmominD rd rs1 rs2 aq rl s
  | .amomax_w rd rs1 rs2 aq rl => Sys2Proof.Machine.execAmomaxW rd rs1 rs2 aq rl s
  | .amomax_d rd rs1 rs2 aq rl => Sys2Proof.Machine.execAmomaxD rd rs1 rs2 aq rl s
  | .amominu_w rd rs1 rs2 aq rl => Sys2Proof.Machine.execAmominuW rd rs1 rs2 aq rl s
  | .amominu_d rd rs1 rs2 aq rl => Sys2Proof.Machine.execAmominuD rd rs1 rs2 aq rl s
  | .amomaxu_w rd rs1 rs2 aq rl => Sys2Proof.Machine.execAmomaxuW rd rs1 rs2 aq rl s
  | .amomaxu_d rd rs1 rs2 aq rl => Sys2Proof.Machine.execAmomaxuD rd rs1 rs2 aq rl s
  | .flw rd rs1 off => Sys2Proof.Machine.execFlw rd rs1 off s
  | .fsw rs1 rs2 off => Sys2Proof.Machine.execFsw rs1 rs2 off s
  | .fmadd_s rd rs1 rs2 rs3 rm => Sys2Proof.Machine.execFmaddS rd rs1 rs2 rs3 rm s
  | .fmsub_s rd rs1 rs2 rs3 rm => Sys2Proof.Machine.execFmsubS rd rs1 rs2 rs3 rm s
  | .fnmsub_s rd rs1 rs2 rs3 rm => Sys2Proof.Machine.execFnmsubS rd rs1 rs2 rs3 rm s
  | .fnmadd_s rd rs1 rs2 rs3 rm => Sys2Proof.Machine.execFnmaddS rd rs1 rs2 rs3 rm s
  | .fadd_s rd rs1 rs2 rm => Sys2Proof.Machine.execFaddS rd rs1 rs2 rm s
  | .fsub_s rd rs1 rs2 rm => Sys2Proof.Machine.execFsubS rd rs1 rs2 rm s
  | .fmul_s rd rs1 rs2 rm => Sys2Proof.Machine.execFmulS rd rs1 rs2 rm s
  | .fdiv_s rd rs1 rs2 rm => Sys2Proof.Machine.execFdivS rd rs1 rs2 rm s
  | .fsqrt_s rd rs1 rm => Sys2Proof.Machine.execFsqrtS rd rs1 rm s
  | .fsgnj_s rd rs1 rs2 => Sys2Proof.Machine.execFsgnjS rd rs1 rs2 s
  | .fsgnjn_s rd rs1 rs2 => Sys2Proof.Machine.execFsgnjnS rd rs1 rs2 s
  | .fsgnjx_s rd rs1 rs2 => Sys2Proof.Machine.execFsgnjxS rd rs1 rs2 s
  | .fmin_s rd rs1 rs2 => Sys2Proof.Machine.execFminS rd rs1 rs2 s
  | .fmax_s rd rs1 rs2 => Sys2Proof.Machine.execFmaxS rd rs1 rs2 s
  | .feq_s rd rs1 rs2 => Sys2Proof.Machine.execFeqS rd rs1 rs2 s
  | .flt_s rd rs1 rs2 => Sys2Proof.Machine.execFltS rd rs1 rs2 s
  | .fle_s rd rs1 rs2 => Sys2Proof.Machine.execFleS rd rs1 rs2 s
  | .fclass_s rd rs1 => Sys2Proof.Machine.execFclassS rd rs1 s
  | .fcvt_w_s rd rs1 rm => Sys2Proof.Machine.execFcvtWS rd rs1 rm s
  | .fcvt_s_w rd rs1 rm => Sys2Proof.Machine.execFcvtSW rd rs1 rm s
  | .fcvt_wu_s rd rs1 rm => Sys2Proof.Machine.execFcvtWuS rd rs1 rm s
  | .fcvt_s_wu rd rs1 rm => Sys2Proof.Machine.execFcvtSWu rd rs1 rm s
  | .fcvt_l_s rd rs1 rm => Sys2Proof.Machine.execFcvtLS rd rs1 rm s
  | .fcvt_s_l rd rs1 rm => Sys2Proof.Machine.execFcvtSL rd rs1 rm s
  | .fcvt_lu_s rd rs1 rm => Sys2Proof.Machine.execFcvtLuS rd rs1 rm s
  | .fcvt_s_lu rd rs1 rm => Sys2Proof.Machine.execFcvtSLu rd rs1 rm s
  | .fmv_x_w rd rs1 => Sys2Proof.Machine.execFmvXW rd rs1 s
  | .fmv_w_x rd rs1 => Sys2Proof.Machine.execFmvWX rd rs1 s
  | .fld rd rs1 off => Sys2Proof.Machine.execFld rd rs1 off s
  | .fsd rs1 rs2 off => Sys2Proof.Machine.execFsd rs1 rs2 off s
  | .fmadd_d rd rs1 rs2 rs3 rm => Sys2Proof.Machine.execFmaddD rd rs1 rs2 rs3 rm s
  | .fmsub_d rd rs1 rs2 rs3 rm => Sys2Proof.Machine.execFmsubD rd rs1 rs2 rs3 rm s
  | .fnmsub_d rd rs1 rs2 rs3 rm => Sys2Proof.Machine.execFnmsubD rd rs1 rs2 rs3 rm s
  | .fnmadd_d rd rs1 rs2 rs3 rm => Sys2Proof.Machine.execFnmaddD rd rs1 rs2 rs3 rm s
  | .fadd_d rd rs1 rs2 rm => Sys2Proof.Machine.execFaddD rd rs1 rs2 rm s
  | .fsub_d rd rs1 rs2 rm => Sys2Proof.Machine.execFsubD rd rs1 rs2 rm s
  | .fmul_d rd rs1 rs2 rm => Sys2Proof.Machine.execFmulD rd rs1 rs2 rm s
  | .fdiv_d rd rs1 rs2 rm => Sys2Proof.Machine.execFdivD rd rs1 rs2 rm s
  | .fsqrt_d rd rs1 rm => Sys2Proof.Machine.execFsqrtD rd rs1 rm s
  | .fsgnj_d rd rs1 rs2 => Sys2Proof.Machine.execFsgnjD rd rs1 rs2 s
  | .fsgnjn_d rd rs1 rs2 => Sys2Proof.Machine.execFsgnjnD rd rs1 rs2 s
  | .fsgnjx_d rd rs1 rs2 => Sys2Proof.Machine.execFsgnjxD rd rs1 rs2 s
  | .fmin_d rd rs1 rs2 => Sys2Proof.Machine.execFminD rd rs1 rs2 s
  | .fmax_d rd rs1 rs2 => Sys2Proof.Machine.execFmaxD rd rs1 rs2 s
  | .feq_d rd rs1 rs2 => Sys2Proof.Machine.execFeqD rd rs1 rs2 s
  | .flt_d rd rs1 rs2 => Sys2Proof.Machine.execFltD rd rs1 rs2 s
  | .fle_d rd rs1 rs2 => Sys2Proof.Machine.execFleD rd rs1 rs2 s
  | .fclass_d rd rs1 => Sys2Proof.Machine.execFclassD rd rs1 s
  | .fcvt_w_d rd rs1 rm => Sys2Proof.Machine.execFcvtWD rd rs1 rm s
  | .fcvt_d_w rd rs1 rm => Sys2Proof.Machine.execFcvtDW rd rs1 rm s
  | .fcvt_wu_d rd rs1 rm => Sys2Proof.Machine.execFcvtWuD rd rs1 rm s
  | .fcvt_d_wu rd rs1 rm => Sys2Proof.Machine.execFcvtDWu rd rs1 rm s
  | .fcvt_l_d rd rs1 rm => Sys2Proof.Machine.execFcvtLD rd rs1 rm s
  | .fcvt_d_l rd rs1 rm => Sys2Proof.Machine.execFcvtDL rd rs1 rm s
  | .fcvt_lu_d rd rs1 rm => Sys2Proof.Machine.execFcvtLuD rd rs1 rm s
  | .fcvt_d_lu rd rs1 rm => Sys2Proof.Machine.execFcvtDLu rd rs1 rm s
  | .fcvt_s_d rd rs1 rm => Sys2Proof.Machine.execFcvtSD rd rs1 rm s
  | .fcvt_d_s rd rs1 rm => Sys2Proof.Machine.execFcvtDS rd rs1 rm s
  | .fmv_x_d rd rs1 => Sys2Proof.Machine.execFmvXD rd rs1 s
  | .fmv_d_x rd rs1 => Sys2Proof.Machine.execFmvDX rd rs1 s
  | .c_addi4spn rd uimm => Sys2Proof.Machine.execCAddi4spn rd uimm s
  | .c_fld rd rs1 uimm => Sys2Proof.Machine.execCFld rd rs1 uimm s
  | .c_lw rd rs1 uimm => Sys2Proof.Machine.execCLw rd rs1 uimm s
  | .c_flw rd rs1 uimm => Sys2Proof.Machine.execCFlw rd rs1 uimm s
  | .c_ld rd rs1 uimm => Sys2Proof.Machine.execCLd rd rs1 uimm s
  | .c_fsd rs1 rs2 uimm => Sys2Proof.Machine.execCFsd rs1 rs2 uimm s
  | .c_sw rs1 rs2 uimm => Sys2Proof.Machine.execCSw rs1 rs2 uimm s
  | .c_fsw rs1 rs2 uimm => Sys2Proof.Machine.execCFsw rs1 rs2 uimm s
  | .c_sd rs1 rs2 uimm => Sys2Proof.Machine.execCSd rs1 rs2 uimm s
  | .c_addi rd imm => Sys2Proof.Machine.execCAddi rd imm s
  | .c_jal off => Sys2Proof.Machine.execCJal off s
  | .c_addiw rd imm => Sys2Proof.Machine.execCAddiw rd imm s
  | .c_li rd imm => Sys2Proof.Machine.execCLi rd imm s
  | .c_addi16sp imm => Sys2Proof.Machine.execCAddi16sp imm s
  | .c_lui rd imm => Sys2Proof.Machine.execCLui rd imm s
  | .c_srli rd uimm => Sys2Proof.Machine.execCSrli rd uimm s
  | .c_srai rd uimm => Sys2Proof.Machine.execCSrai rd uimm s
  | .c_andi rd imm => Sys2Proof.Machine.execCAndi rd imm s
  | .c_sub rd rs2 => Sys2Proof.Machine.execCSub rd rs2 s
  | .c_xor rd rs2 => Sys2Proof.Machine.execCXor rd rs2 s
  | .c_or rd rs2 => Sys2Proof.Machine.execCOr rd rs2 s
  | .c_and rd rs2 => Sys2Proof.Machine.execCAnd rd rs2 s
  | .c_subw rd rs2 => Sys2Proof.Machine.execCSubw rd rs2 s
  | .c_addw rd rs2 => Sys2Proof.Machine.execCAddw rd rs2 s
  | .c_j off => Sys2Proof.Machine.execCJ off s
  | .c_beqz rs1 off => Sys2Proof.Machine.execCBeqz rs1 off s
  | .c_bnez rs1 off => Sys2Proof.Machine.execCBnez rs1 off s
  | .c_slli rd uimm => Sys2Proof.Machine.execCSlli rd uimm s
  | .c_fldsp rd uimm => Sys2Proof.Machine.execCFldsp rd uimm s
  | .c_lwsp rd uimm => Sys2Proof.Machine.execCLwsp rd uimm s
  | .c_flwsp rd uimm => Sys2Proof.Machine.execCFlwsp rd uimm s
  | .c_ldsp rd uimm => Sys2Proof.Machine.execCLdsp rd uimm s
  | .c_jr rs1 => Sys2Proof.Machine.execCJr rs1 s
  | .c_mv rd rs2 => Sys2Proof.Machine.execCMv rd rs2 s
  | .c_ebreak => Sys2Proof.Machine.execCEbreak s
  | .c_jalr rs1 => Sys2Proof.Machine.execCJalr rs1 s
  | .c_add rd rs2 => Sys2Proof.Machine.execCAdd rd rs2 s
  | .c_fsdsp rs2 uimm => Sys2Proof.Machine.execCFsdsp rs2 uimm s
  | .c_swsp rs2 uimm => Sys2Proof.Machine.execCSwsp rs2 uimm s
  | .c_fswsp rs2 uimm => Sys2Proof.Machine.execCFswsp rs2 uimm s
  | .c_sdsp rs2 uimm => Sys2Proof.Machine.execCSdsp rs2 uimm s
  | .beqz rs1 off => Sys2Proof.Machine.execBeqz rs1 off s
  | .bgez rs1 off => Sys2Proof.Machine.execBgez rs1 off s
  | .bgt rs1 rs2 off => Sys2Proof.Machine.execBgt rs1 rs2 off s
  | .bgtu rs1 rs2 off => Sys2Proof.Machine.execBgtu rs1 rs2 off s
  | .bgtz rs2 off => Sys2Proof.Machine.execBgtz rs2 off s
  | .ble rs1 rs2 off => Sys2Proof.Machine.execBle rs1 rs2 off s
  | .bleu rs1 rs2 off => Sys2Proof.Machine.execBleu rs1 rs2 off s
  | .blez rs2 off => Sys2Proof.Machine.execBlez rs2 off s
  | .bltz rs1 off => Sys2Proof.Machine.execBltz rs1 off s
  | .bnez rs1 off => Sys2Proof.Machine.execBnez rs1 off s
  | .call rd hi lo => Sys2Proof.Machine.execCall rd hi lo s
  | .csrc csr rs1 => Sys2Proof.Machine.execCsrc csr rs1 s
  | .csrci csr zimm => Sys2Proof.Machine.execCsrci csr zimm s
  | .csrr rd csr => Sys2Proof.Machine.execCsrr rd csr s
  | .csrs csr rs1 => Sys2Proof.Machine.execCsrs csr rs1 s
  | .csrsi csr zimm => Sys2Proof.Machine.execCsrsi csr zimm s
  | .csrw csr rs1 => Sys2Proof.Machine.execCsrw csr rs1 s
  | .csrwi csr zimm => Sys2Proof.Machine.execCsrwi csr zimm s
  | .fabs_d rd rs1 => Sys2Proof.Machine.execFabsD rd rs1 s
  | .fabs_s rd rs1 => Sys2Proof.Machine.execFabsS rd rs1 s
  | .fmv_d rd rs1 => Sys2Proof.Machine.execFmvD rd rs1 s
  | .fmv_s rd rs1 => Sys2Proof.Machine.execFmvS rd rs1 s
  | .fneg_d rd rs1 => Sys2Proof.Machine.execFnegD rd rs1 s
  | .fneg_s rd rs1 => Sys2Proof.Machine.execFnegS rd rs1 s
  | .frcsr rd => Sys2Proof.Machine.execFrcsr rd s
  | .frflags rd => Sys2Proof.Machine.execFrflags rd s
  | .frrm rd => Sys2Proof.Machine.execFrrm rd s
  | .fscsr rd rs1 => Sys2Proof.Machine.execFscsr rd rs1 s
  | .fsflags rd rs1 => Sys2Proof.Machine.execFsflags rd rs1 s
  | .fsrm rd rs1 => Sys2Proof.Machine.execFsrm rd rs1 s
  | .j off => Sys2Proof.Machine.execJ off s
  | .jr rs1 => Sys2Proof.Machine.execJr rs1 s
  | .la rd got hi lo => Sys2Proof.Machine.execLa rd got hi lo s
  | .li rd imm => Sys2Proof.Machine.execLi rd imm s
  | .lla rd hi lo => Sys2Proof.Machine.execLla rd hi lo s
  | .mv rd rs1 => Sys2Proof.Machine.execMv rd rs1 s
  | .neg rd rs2 => Sys2Proof.Machine.execNeg rd rs2 s
  | .negw rd rs2 => Sys2Proof.Machine.execNegw rd rs2 s
  | .nop => Sys2Proof.Machine.execNop s
  | .not rd rs1 => Sys2Proof.Machine.execNot rd rs1 s
  | .rdcycle rd => Sys2Proof.Machine.execRdcycle rd s
  | .rdcycleh rd => Sys2Proof.Machine.execRdcycleh rd s
  | .rdinstret rd => Sys2Proof.Machine.execRdinstret rd s
  | .rdinstreth rd => Sys2Proof.Machine.execRdinstreth rd s
  | .rdtime rd => Sys2Proof.Machine.execRdtime rd s
  | .rdtimeh rd => Sys2Proof.Machine.execRdtimeh rd s
  | .ret => Sys2Proof.Machine.execRet s
  | .seqz rd rs1 => Sys2Proof.Machine.execSeqz rd rs1 s
  | .sext_w rd rs1 => Sys2Proof.Machine.execSextW rd rs1 s
  | .sgtz rd rs2 => Sys2Proof.Machine.execSgtz rd rs2 s
  | .sltz rd rs1 => Sys2Proof.Machine.execSltz rd rs1 s
  | .snez rd rs2 => Sys2Proof.Machine.execSnez rd rs2 s
  | .tail hi lo => Sys2Proof.Machine.execTail hi lo s

end Sys2Proof.Machine
end

