-- ==== Sys2Proof/Machine/Fetch.lean ====
section
/-! DEFINITION. Instruction fetch (R80 to R82, R94, R95, 20_memory.md) and the interrupt part of a step (R600,
60_exceptions.md). -/

namespace Sys2Proof.Machine

open Sys2Proof

/-- The byte a fetch sees: memory's, or for a dirty byte a draw between it and its value at the last
`fence.i` (R95, 20_memory.md; log 18). -/
def State.fetchByte (s : State) (a : Nat) : Byte :=
  match s.stale.find a with
  | some old => if Config.freeFetchOld s.tick a then old else s.mem.read a
  | none => s.mem.read a

/-- The parcel at an address; both of its bytes must be ram (R81, 20_memory.md). -/
def State.fetchParcel (s : State) (addr : Word) : Except Exc (BitVec 16) :=
  if s.allBytes addr isRam 2 then
    .ok (s.fetchByte (byteAddr s.cfg.xlen addr 1) ++ s.fetchByte (byteAddr s.cfg.xlen addr 0))
  else .error (.instrAccess addr)

/-- The code word at the pc (R81, 20_memory.md). -/
def State.fetch (s : State) : Except Exc Code :=
  if s.cfg.c = false ∧ s.pc[1] = true then .error (.instrMisaligned s.pc)
  else
    match s.fetchParcel s.pc with
    | .error e => .error e
    | .ok p0 =>
      if p0.extractLsb' 0 2 = 0b11#2 then
        match s.fetchParcel (s.ea s.pc 2#64) with
        | .error e => .error e
        | .ok p1 => .ok (.word (p1 ++ p0))
      else .ok (.half p0)

/-- The pending bits that the platform shows to this step (R601, 60_exceptions.md; log 19): the next of the
inputs, and when there is none left the bits stay. Under TRAP = halt there are no interrupts. -/
def State.sampleIrqs (s : State) : State :=
  match s.cfg.trap, s.irqInputs with
  | .machine, b :: rest => { s with irqPending := b, irqInputs := rest }
  | .machine, [] => s
  | .halt, _ => s

/-- The interrupt that a step takes before its fetch, if any (R600, 60_exceptions.md). -/
def State.irqToTake (s : State) : Option Nat := if s.irqsEnabled then s.pendingIrq else none

/-- A hart that idles in a `wfi`. When the step takes an interrupt, the `wfi` has completed and the interrupt finds the
pc past it (R603, 60_exceptions.md; log 17). Otherwise the hart meets the same `wfi` again (R251, 42_system.md), and
this step executes that and nothing else. -/
def State.wake (s : State) : State :=
  if s.idle then
    match s.irqToTake with
    | some _ => { s with idle := false }.advance 4#64
    | none => { s with idle := false }
  else s

/-- The state in which a step looks for interrupts and fetches: the inputs sampled, an idle `wfi` resumed,
and the model's own counter advanced (log 20). -/
def State.begin (s : State) : State :=
  { s with tick := s.tick + 1 }.sampleIrqs.wake

/-- Fetch and decode at the pc: the instruction, or the exception that either raises (R81, 20_memory.md; R142,
30_encoding.md). -/
def State.fetchInstr (s : State) : Except Exc Instr :=
  match s.fetch with
  | .error e => .error e
  | .ok code =>
    match decodeCode s.cfg code with
    | .error _ => .error (.illegal code.toWord)
    | .ok i => .ok i

/-- Memory with bytes laid out from byte `i` of an address on, as a loader writes it: no byte becomes dirty
(R631, 70_reset_and_hazards.md; log 10). -/
def State.placeBytes (s : State) (addr : Word) (i : Nat) : List Byte → State
  | [] => s
  | b :: rest =>
    { s with
      mem := s.mem.write (byteAddr s.cfg.xlen addr i) b
      stale := s.stale.erase (byteAddr s.cfg.xlen addr i) }.placeBytes addr (i + 1) rest

end Sys2Proof.Machine
end

