-- ==== Sys2Proof/Machine/Step.lean ====
section
/-! DEFINITION. One step of the hart (R14, 00_scope.md; R600, 60_exceptions.md), and where a step finds its
instruction. -/

namespace Sys2Proof.Machine

open Sys2Proof

/-- One step: a pending enabled interrupt is taken, or else the instruction at the pc is fetched, decoded and
executed (R14, 00_scope.md; R600, 60_exceptions.md). -/
def step (s : State) : Host.Outcome State Fault Refusal :=
  match s.begin.irqToTake with
  | some i => .next (s.begin.takeIrq i)
  | none =>
    match s.begin.fetchInstr with
    | .error e => s.begin.raise e
    | .ok i => exec i s.begin

/-- The state with an instruction stored where the next step fetches: four bytes at the pc, little-endian,
the bits above `nbits` zero (R82, 20_memory.md; log 10). -/
def State.withFetchWord (s : State) (nbits w : Nat) : State :=
  s.placeBytes s.pc 0 (Code.word (BitVec.ofNat 32 (w % 2 ^ nbits))).bytes

end Sys2Proof.Machine
end

