-- ==== Sys2Proof/Safety.lean ====
section
/-! DEFINITION. The words in which the statements speak of the machine: register values as numbers, what an
instruction leaves unchanged, how it ends, the entry of a trap, and the invariants of a run. -/

namespace Sys2Proof.Machine

open Sys2Proof

/-! ### Values as numbers (R19 to R21, 00_scope.md) -/

/-- `2^XLEN`. -/
def State.modulus (s : State) : Nat := 2 ^ s.cfg.xlen.bits

/-- `x[r]` as an unsigned number. -/
def State.ux (s : State) (r : Reg) : Nat := (s.readX r).toNat

/-- `x[r]` as a two's complement number. -/
def State.sx (s : State) (r : Reg) : Int := (s.ux r : Int).bmod s.modulus

/-- The low 32 bits of `x[r]` as an unsigned number. -/
def State.ux32 (s : State) (r : Reg) : Nat := s.ux r % 2 ^ 32

/-- The low 32 bits of `x[r]` as a two's complement number. -/
def State.sx32 (s : State) (r : Reg) : Int := (s.ux r : Int).bmod (2 ^ 32)

/-- A number modulo `2^XLEN`. -/
def State.wrap (s : State) (v : Int) : Nat := (v % (s.modulus : Int)).toNat

/-- A number reduced to 32 bits and read as two's complement: what the `*w` instructions write. -/
def word32 (v : Int) : Int := v.bmod (2 ^ 32)

/-- The pc as a number. -/
def State.upc (s : State) : Int := (s.pc.toNat : Int)

/-! ### What an instruction leaves unchanged -/

/-- Every integer register but `rd` reads as before. -/
def State.SameXBut (s t : State) (rd : Reg) : Prop := ∀ r, r ≠ rd → t.readX r = s.readX r

/-- Every integer register reads as before. -/
def State.SameX (s t : State) : Prop := ∀ r, t.readX r = s.readX r

/-- Every floating-point register but `rd` reads as before. -/
def State.SameFBut (s t : State) (rd : Reg) : Prop := ∀ r, r ≠ rd → t.readF r = s.readF r

/-- Every floating-point register reads as before. -/
def State.SameF (s t : State) : Prop := ∀ r, t.readF r = s.readF r

/-- Every byte of memory reads as before, no byte changes its dirty flag and nothing is output. -/
def State.SameMem (s t : State) : Prop :=
  (∀ a, t.mem.read a = s.mem.read a) ∧ t.stale = s.stale ∧ t.ioTrace = s.ioTrace

/-- The fields that trap entry and the returns write: `mstatus`, `mepc`, `mcause`, `mtval` and the mode. -/
def State.SameTrap (s t : State) : Prop :=
  t.priv = s.priv ∧ t.mie = s.mie ∧ t.mpie = s.mpie ∧ t.mpp = s.mpp ∧ t.sie = s.sie ∧ t.spie = s.spie ∧
    t.spp = s.spp ∧ t.mepc = s.mepc ∧ t.mcause = s.mcause ∧ t.mtval = s.mtval

/-- The other control and status registers but `fcsr`: `sepc`, `mtvec`, `mscratch`, `mie` and `mip`. -/
def State.SameCsr (s t : State) : Prop :=
  t.sepc = s.sepc ∧ t.mtvec = s.mtvec ∧ t.mscratch = s.mscratch ∧ t.irqEnable = s.irqEnable ∧
    t.irqPending = s.irqPending

/-- What is no register: the parameters, the inputs to come and the model's own counter. -/
def State.SameRun (s t : State) : Prop :=
  t.cfg = s.cfg ∧ t.irqInputs = s.irqInputs ∧ t.tick = s.tick

/-- Everything but the registers `x` and `f`, `fcsr`, the pc and memory. -/
def State.SameSystem (s t : State) : Prop :=
  s.SameTrap t ∧ s.SameCsr t ∧ s.SameRun t ∧ t.reservation = s.reservation ∧ t.idle = s.idle

/-! ### How an instruction ends -/

/-- The outcome is a next state, of which `P` holds. -/
def Ends (o : Outcome) (P : State → Prop) : Prop := ∃ t, o = .next t ∧ P t

/-- The outcome is a next state with the pc at `pc'` and `x[rd]` at `v`, both modulo `2^XLEN`, `x0` still
zero, and nothing else changed. With `rd` = `x0` no register changes at all. -/
def State.EndsAt (s : State) (o : Outcome) (pc' : Int) (rd : Reg) (v : Int) : Prop :=
  Ends o fun t =>
    t.pc.toNat = s.wrap pc' ∧ t.ux rd = (if rd = 0#5 then 0 else s.wrap v) ∧ s.SameXBut t rd ∧
      s.SameF t ∧ t.fcsr = s.fcsr ∧ s.SameMem t ∧ s.SameSystem t

/-- An instruction of `len` bytes that writes `x[rd]`. -/
def State.EndsX (s : State) (o : Outcome) (len : Int) (rd : Reg) (v : Int) : Prop :=
  s.EndsAt o (s.upc + len) rd v

/-- An instruction of `len` bytes that writes the double `v` to `f[rd]` and accrues the flags `fl`. -/
def State.EndsF (s : State) (o : Outcome) (len : Int) (rd : Reg) (v : Word) (fl : BitVec 5) : Prop :=
  Ends o fun t =>
    t.pc.toNat = s.wrap (s.upc + len) ∧ t.readF rd = v ∧ s.SameFBut t rd ∧ t.fflags = s.fflags ||| fl ∧
      t.frm = s.frm ∧ s.SameX t ∧ s.SameMem t ∧ s.SameSystem t

/-- The bit pattern of a single-precision value in an `f` register: boxed when FLEN = 64 (R342, 45_rvf.md). -/
def State.boxed (s : State) (v : BitVec 32) : Word :=
  if s.cfg.fp = .fd then BitVec.ofNat 64 ((2 ^ 32 - 1) * 2 ^ 32 + v.toNat) else v.setWidth 64

/-- The single-precision value of `f[r]` (R342, 45_rvf.md). -/
def State.unboxed (s : State) (r : Reg) : Nat :=
  if s.cfg.fp = .fd ∧ (s.readF r).toNat / 2 ^ 32 ≠ 2 ^ 32 - 1 then 0x7FC00000
  else (s.readF r).toNat % 2 ^ 32

/-- An instruction of `len` bytes that writes a boxed single-precision result with its flags. -/
def State.EndsS (s : State) (o : Outcome) (len : Int) (rd : Reg) (r : Nat × BitVec 5) : Prop :=
  s.EndsF o len rd (s.boxed (BitVec.ofNat 32 r.1)) r.2

/-- A floating-point instruction that writes `x[rd]` and accrues the flags `fl`. -/
def State.EndsI (s : State) (o : Outcome) (rd : Reg) (v : Int) (fl : BitVec 5) : Prop :=
  Ends o fun t =>
    t.pc.toNat = s.wrap (s.upc + 4) ∧ t.ux rd = (if rd = 0#5 then 0 else s.wrap v) ∧ s.SameXBut t rd ∧
      s.SameF t ∧ t.fflags = s.fflags ||| fl ∧ t.frm = s.frm ∧ s.SameMem t ∧ s.SameSystem t

/-! ### Control transfers and memory accesses -/

/-- A target that does not raise: C is implemented, or bit 1 of the target is 0 (R83, 20_memory.md). -/
def State.TargetOk (s : State) (target : Int) : Prop := s.cfg.c = true ∨ s.wrap target / 2 % 2 = 0

/-- A target with bit 0 masked off (R208, 41_rvi_control_mem.md). -/
def State.masked (s : State) (target : Int) : Int := (s.wrap target / 2 * 2 : Nat)

/-- Where an access of `x[r]` plus an offset goes, as an address. -/
def State.addr (s : State) (r : Reg) (off : Int) : Word := BitVec.ofNat 64 (s.wrap (s.ux r + off))

/-- A data access of `n` bytes that raises nothing: aligned or split, every byte ram or a device (R73 to R76,
20_memory.md). -/
def State.Accessible (s : State) (a : Word) (n : Nat) : Prop :=
  (a.toNat % n = 0 ∨ s.cfg.misaligned = .split) ∧
    ∀ i, i < n → s.classAt (byteAddr s.cfg.xlen a i) ≠ .none

/-- An atomic access of `n` bytes that raises nothing: aligned, every byte ram (R306, 44_rva.md). -/
def State.Atomic (s : State) (a : Word) (n : Nat) : Prop :=
  a.toNat % n = 0 ∧ ∀ i, i < n → s.classAt (byteAddr s.cfg.xlen a i) = .ram

/-- The number in `n` bytes, the lowest address the least significant (R72, R73, 20_memory.md). -/
def State.numberAt (s : State) (a : Word) (n : Nat) : Nat :=
  ((List.range n).map fun i => (s.loadByte (byteAddr s.cfg.xlen a i)).toNat * 256 ^ i).sum

/-- Byte `i` of a number. -/
def byteOf (v i : Nat) : Byte := BitVec.ofNat 8 (v / 256 ^ i)

/-- Memory after a store of the low `n` bytes of `v`: each byte of class ram holds its part, every other byte
of memory reads as before, and each byte of class io is output, in rising order; each stored byte of class ram is
dirty, with the value it had at the last `fence.i` (R74, R79, R95, 20_memory.md; logs 15, 18). -/
def State.Stored (s t : State) (a : Word) (n v : Nat) : Prop :=
  (∀ i, i < n → s.classAt (byteAddr s.cfg.xlen a i) = .ram →
      t.mem.read (byteAddr s.cfg.xlen a i) = byteOf v i) ∧
    (∀ b, (∀ i, i < n → s.classAt (byteAddr s.cfg.xlen a i) = .ram → b ≠ byteAddr s.cfg.xlen a i) →
      t.mem.read b = s.mem.read b ∧ t.stale.find b = s.stale.find b) ∧
    (∀ i, i < n → s.classAt (byteAddr s.cfg.xlen a i) = .ram → t.stale.find (byteAddr s.cfg.xlen a i) =
      some ((s.stale.find (byteAddr s.cfg.xlen a i)).getD (s.mem.read (byteAddr s.cfg.xlen a i)))) ∧
    t.ioTrace = s.ioTrace ++ ((List.range n).filter fun i =>
      s.classAt (byteAddr s.cfg.xlen a i) = .io).map fun i =>
        { addr := byteAddr s.cfg.xlen a i, value := byteOf v i }

/-- A store of `len` bytes of code and `n` bytes of data: memory changes as `Stored` says, nothing else. -/
def State.EndsStore (s : State) (o : Outcome) (len : Int) (a : Word) (n v : Nat) : Prop :=
  Ends o fun t =>
    t.pc.toNat = s.wrap (s.upc + len) ∧ s.Stored t a n v ∧ s.SameX t ∧ s.SameF t ∧ t.fcsr = s.fcsr ∧
      s.SameSystem t

/-- An atomic memory operation: `x[rd]` gets `v`, the `n` bytes get `w`, nothing else changes. -/
def State.EndsAmo (s : State) (o : Outcome) (rd : Reg) (v : Int) (a : Word) (n w : Nat) : Prop :=
  Ends o fun t =>
    t.pc.toNat = s.wrap (s.upc + 4) ∧ t.ux rd = (if rd = 0#5 then 0 else s.wrap v) ∧ s.SameXBut t rd ∧
      s.Stored t a n w ∧ s.SameF t ∧ t.fcsr = s.fcsr ∧ s.SameSystem t

/-! ### Traps -/

/-- An address with the bits cleared that `mepc` and `sepc` do not hold (R50, 10_state.md). -/
def State.evenPc (s : State) (v : Word) : Nat :=
  let k := if s.cfg.c then 2 else 4
  s.wrap v.toNat / k * k

/-- `{mtvec[XLEN-1:2], 00}` as a number (R592, 60_exceptions.md). -/
def State.handler (s : State) : Nat := s.wrap s.mtvec.toNat / 4 * 4

/-- The state after a trap entry with this cause and trap value to this address (R592, 60_exceptions.md). -/
def State.Trapped (s t : State) (cause tval target : Nat) : Prop :=
  t.mepc.toNat = s.evenPc s.pc ∧ t.mcause.toNat = s.wrap cause ∧ t.mtval.toNat = s.wrap tval ∧
    t.mpie = s.mie ∧ t.mie = false ∧ t.mpp = s.priv ∧ t.priv = .machine ∧ t.pc.toNat = s.wrap target ∧
    t.sie = s.sie ∧ t.spie = s.spie ∧ t.spp = s.spp ∧ s.SameX t ∧ s.SameF t ∧ t.fcsr = s.fcsr ∧
    s.SameMem t ∧ s.SameCsr t ∧ s.SameRun t ∧ t.reservation = s.reservation ∧ t.idle = s.idle

/-- The outcome of an exception: under TRAP = machine the trap entry with this code and this trap value, under
TRAP = halt the end of the run that reports them with the pc (R591, R592, 60_exceptions.md). -/
def State.EndsTrap (s : State) (o : Outcome) (e : Exc) (code tval : Nat) : Prop :=
  (s.cfg.trap = .machine → Ends o fun t => s.Trapped t code tval s.handler) ∧
    (s.cfg.trap = .halt → o = .fault (.trapped e s.pc))

/-! ### Control and status registers -/

/-- An access to the CSR `c` at an address that passes the checks of R240 (42_system.md). -/
def State.CsrOk (s : State) (a : BitVec 12) (writes : Prop) (c : Csr) : Prop :=
  csrAt s.cfg a = some c ∧ a.toNat / 256 % 4 ≤ (privCode s.priv).toNat ∧ (writes → a.toNat / 1024 ≠ 3)

/-- Every control and status register of `t`, with its mode, is that of `u`. -/
def State.CsrsOf (t u : State) : Prop :=
  u.SameTrap t ∧ u.SameCsr t ∧ t.fcsr = u.fcsr

/-- A CSR instruction on `c`: `x[rd]` gets the old value, the registers are those of `u`, nothing else
changes. -/
def State.EndsCsr (s : State) (o : Outcome) (rd : Reg) (c : Csr) (u : State) : Prop :=
  Ends o fun t =>
    t.pc.toNat = s.wrap (s.upc + 4) ∧ t.ux rd = (if rd = 0#5 then 0 else (s.readCsr c).toNat) ∧
      s.SameXBut t rd ∧ s.SameF t ∧ t.CsrsOf u ∧ s.SameMem t ∧ s.SameRun t ∧
      t.reservation = s.reservation ∧ t.idle = s.idle

/-- The six CSR instructions and the pseudoinstructions that expand to one. -/
def isCsrInstr (i : Instr) : Prop :=
  match i with
  | .csrrw .. | .csrrs .. | .csrrc .. | .csrrwi .. | .csrrsi .. | .csrrci .. | .csrc .. | .csrci ..
  | .csrr .. | .csrs .. | .csrsi .. | .csrw .. | .csrwi .. | .frcsr .. | .frflags .. | .frrm ..
  | .fscsr .. | .fsflags .. | .fsrm .. | .rdcycle .. | .rdcycleh .. | .rdinstret .. | .rdinstreth ..
  | .rdtime .. | .rdtimeh .. => True
  | _ => False

/-! ### The interrupts a step sees -/

/-- Interrupt `i` is pending and enabled in `mie` (R600, R601, 60_exceptions.md). -/
def State.Pending (s : State) (i : Nat) : Prop :=
  s.cfg.trap = .machine ∧
    ((i = 11 ∧ s.irqPending.external = true ∧ s.irqEnable.external = true) ∨
      (i = 7 ∧ s.irqPending.timer = true ∧ s.irqEnable.timer = true) ∨
      (i = 3 ∧ s.irqPending.software = true ∧ s.irqEnable.software = true))

/-! ### Floating-point values as rational numbers (R341, R344, R347, 45_rvf.md) -/

/-- The number `± k * 2 ^ q`. -/
def rational (neg : Bool) (k : Nat) (q : Int) : ℚ := (if neg then -1 else 1) * (k : ℚ) * (2 : ℚ) ^ q

/-- The number a pattern stands for, when it is finite. -/
def fpReal (m : Fmt) (v : Nat) : Option ℚ :=
  match fpUnpack m v with
  | .fin neg k q => some (rational neg k q)
  | .inf _ => none
  | .nan _ => none

/-- A grid of numbers with `p` significant bits: those whose unit `2 ^ q` is admitted. -/
def OnGrid (m : Fmt) (units : Int → Prop) (y : ℚ) : Prop :=
  ∃ neg k q, k < 2 ^ (m.t + 1) ∧ units q ∧ y = rational neg k q

/-- The units of the format with the upper bound on the exponent dropped (R344 a). -/
def Fmt.units (m : Fmt) (q : Int) : Prop := m.qmin ≤ q

/-- The largest finite number of the format: `MAX` of R344. -/
def Fmt.largest (m : Fmt) : ℚ := rational false (2 ^ (m.t + 1) - 1) m.qmax

/-- `y` is the neighbour of `r` on the grid that the mode chooses (R344 a). -/
def RoundsTo (m : Fmt) (units : Int → Prop) (mode : RoundMode) (r y : ℚ) : Prop :=
  OnGrid m units y ∧
    match mode with
    | .rtz => |y| ≤ |r| ∧ 0 ≤ y * r ∧ ∀ z, OnGrid m units z → |z| ≤ |r| → |z| ≤ |y|
    | .rdn => y ≤ r ∧ ∀ z, OnGrid m units z → z ≤ r → z ≤ y
    | .rup => r ≤ y ∧ ∀ z, OnGrid m units z → r ≤ z → y ≤ z
    | .rmm => ∀ z, OnGrid m units z → |y - r| ≤ |z - r| ∧ (|y - r| = |z - r| → |z| ≤ |y|)
    | .rne => ∀ z, OnGrid m units z → |y - r| ≤ |z - r| ∧ (z ≠ y → |y - r| = |z - r| →
        ∃ neg k q, units q ∧ y = rational neg (2 * k) q ∧
          (z = rational neg (2 * k + 1) q ∨ 0 < k ∧ z = rational neg (2 * k - 1) q))

/-- Tininess, after rounding: `r` rounded to `p` bits with unbounded exponent lies strictly between `-2 ^ emin` and
`2 ^ emin` (R344 c). -/
def Tiny (m : Fmt) (mode : RoundMode) (r : ℚ) : Prop :=
  r ≠ 0 ∧ ∃ z, RoundsTo m (fun _ => True) mode r z ∧ |z| < (2 : ℚ) ^ (m.qmin + m.t)

/-- The canonical NaN of each format, written out (R341). -/
def Fmt.nanBits (m : Fmt) : Nat := if m = .single then 0x7FC00000 else 0x7FF8000000000000

/-- A pattern of single precision or one of double precision, with the sign bit put in (R341). -/
def Fmt.signed (m : Fmt) (neg : Bool) (single double : Nat) : Nat :=
  if m = .single then (if neg then 0x80000000 else 0) + single
  else (if neg then 0x8000000000000000 else 0) + double

/-- The zeros, written out (R341). -/
def Fmt.zeroBits (m : Fmt) (neg : Bool) : Nat := m.signed neg 0 0

/-- The infinities, written out (R341). -/
def Fmt.infBits (m : Fmt) (neg : Bool) : Nat := m.signed neg 0x7F800000 0x7FF0000000000000

/-- The largest finite numbers of both signs, written out (R341, R344). -/
def Fmt.maxBits (m : Fmt) (neg : Bool) : Nat := m.signed neg 0x7F7FFFFF 0x7FEFFFFFFFFFFFFF

/-- The result of an overflow: an infinity or `MAX`, by the mode and the sign (R344 b). -/
def Fmt.overflowBits (m : Fmt) (mode : RoundMode) (neg : Bool) : Nat :=
  match mode, neg with
  | .rne, _ | .rmm, _ | .rdn, true | .rup, false => m.infBits neg
  | .rtz, _ | .rdn, false | .rup, true => m.maxBits neg

/-- What R344 says of a result `out` for an exact result `r` of the sign `neg`: the neighbour of `r` that the mode
chooses, with NX when it differs, and UF too when `r` is tiny; above the largest finite number the result of an
overflow, with OF and NX. -/
def Rounded (m : Fmt) (mode : RoundMode) (neg : Bool) (r : ℚ) (out : Nat × BitVec 5) : Prop :=
  ∃ y, RoundsTo m m.units mode r y ∧
    (|y| ≤ m.largest → fpReal m out.1 = some y ∧ fpNeg m out.1 = neg ∧ (y = r → out.2 = 0) ∧
      (y ≠ r → Tiny m mode r → out.2 = flagUF ||| flagNX) ∧ (y ≠ r → ¬Tiny m mode r → out.2 = flagNX)) ∧
    (m.largest < |y| → out = (m.overflowBits mode neg, flagOF ||| flagNX))

/-- `y` is the neighbour on the grid that the mode chooses for the square root of `x`, said by squares. No square
root of a number of the format lies halfway between two of them, so the two nearest modes agree. -/
def RootRoundsTo (m : Fmt) (mode : RoundMode) (x y : ℚ) : Prop :=
  OnGrid m m.units y ∧ 0 ≤ y ∧
    match mode with
    | .rtz | .rdn => y * y ≤ x ∧ ∀ z, OnGrid m m.units z → 0 ≤ z → z * z ≤ x → z ≤ y
    | .rup => x ≤ y * y ∧ ∀ z, OnGrid m m.units z → 0 ≤ z → x ≤ z * z → y ≤ z
    | .rne | .rmm => ∀ z, OnGrid m m.units z → 0 ≤ z →
        (z < y → (y + z) / 2 * ((y + z) / 2) < x) ∧ (y < z → x < (y + z) / 2 * ((y + z) / 2))

/-- The fused operations `± (a * b) ± c`: each with whether it negates the product and whether it negates the addend
(R356 to R359). -/
def fusedOps : List ((Fmt → RoundMode → Nat → Nat → Nat → Nat × BitVec 5) × Bool × Bool) :=
  [(fpMadd, false, false), (fpMsub, false, true), (fpNmadd, true, true), (fpNmsub, true, false)]

/-- `-r` or `r`. -/
def negatedIf (flip : Bool) (r : ℚ) : ℚ := if flip then -r else r

/-- `n` is the integer that the mode rounds `r` to (R347). -/
def IntRoundsTo (mode : RoundMode) (r : ℚ) (n : Int) : Prop :=
  match mode with
  | .rtz => n = if 0 ≤ r then ⌊r⌋ else ⌈r⌉
  | .rdn => n = ⌊r⌋
  | .rup => n = ⌈r⌉
  | .rne => 2 * |(n : ℚ) - r| ≤ 1 ∧ (2 * |(n : ℚ) - r| = 1 → n % 2 = 0)
  | .rmm => 2 * |(n : ℚ) - r| ≤ 1 ∧ (2 * |(n : ℚ) - r| = 1 → |r| ≤ |(n : ℚ)|)

/-! ### Machine instructions and pseudoinstructions -/

/-- The instructions that decoding can yield: those that stand for themselves (R510, 48_pseudo.md). -/
def isMachine (xl : Xlen) (i : Instr) : Prop := i.expand xl = [i]

/-- Instructions run one after another. -/
def runAll (is : List Instr) (s : State) : Outcome :=
  match is with
  | [] => .next s
  | i :: rest => andThen (exec i s) (runAll rest)

/-! ### Invariants of a run -/

/-- Memory keeps its canonical form, the dirty bytes stay sorted, and both lie in the address space. -/
def State.MemoryInv (s : State) : Prop :=
  s.mem.wf = true ∧ s.stale.sorted = true ∧ (∀ c ∈ s.mem, c.1 < s.modulus) ∧ ∀ c ∈ s.stale, c.1 < s.modulus

/-- The mode and MPP are implemented modes, and `pc`, `mepc` and `sepc` are aligned values of XLEN bits (R37,
R48, R50, R51, 10_state.md). -/
def State.ControlInv (s : State) : Prop :=
  s.cfg.modes.has s.priv = true ∧ s.cfg.modes.has s.mpp = true ∧ s.pc.toNat = s.evenPc s.pc ∧
    s.mepc.toNat = s.evenPc s.mepc ∧ s.sepc.toNat = s.evenPc s.sepc

end Sys2Proof.Machine
end

