-- ==== Sys2Proof/Certificates/Slice0/Obligations.lean ====
section
/-! DEFINITION. The statements about the machine. "For every state" includes states that no run reaches; where a
statement needs one of the invariants of Safety.lean it says so, and the invariant is a statement of its own. -/

open Sys2Proof Sys2Proof.Machine

/-! ### Decoding and encoding (30_encoding.md) -/

/-- The instructions that six words of the spec's own examples stand for (R161, 40_rvi_compute.md; R201, R207,
41_rvi_control_mem.md; R241, 42_system.md; R460, R461, 47_rvc.md). -/
def Obligations.example_words_decode : Prop :=
  decodeCode Config.reset (.word 0x002081b3#32) = .ok (.add 3 1 2) ∧
    decodeCode Config.reset (.word 0x00208463#32) = .ok (.beq 1 2 4) ∧
    decodeCode Config.reset (.word 0xffdff0ef#32) = .ok (.jal 1 0xffffe) ∧
    decodeCode Config.reset (.word 0x003312f3#32) = .ok (.csrrw 5 3 6) ∧
    decodeCode Config.reset (.half 0x0800#16) = .ok (.c_addi4spn 0 4) ∧
    decodeCode Config.reset (.half 0x147d#16) = .ok (.c_addi 8 63)

/-- Decoding the bytes of a well-formed machine instruction gives it back and leaves the bytes after it, for
every instruction and every operand the encoding admits (R111 to R148, 30_encoding.md). -/
def Obligations.decode_encode : Prop :=
  ∀ (cfg : Config) (i : Instr) (rest : List Byte), i.wf cfg = true → isMachine cfg.xlen i →
    decode cfg (encode cfg.xlen i ++ rest) = .ok (i, rest)

/-- What decodes is a well-formed machine instruction, and its encoding is the word it was decoded from: no bit
of a word is ignored and none is shared by two instructions (R141 to R148, 30_encoding.md). -/
def Obligations.encode_decode : Prop :=
  ∀ (cfg : Config) (code : Code) (i : Instr), decodeCode cfg code = .ok i →
    i.wf cfg = true ∧ isMachine cfg.xlen i ∧ i.code cfg.xlen = code

/-- A pseudoinstruction runs as its expansion, one machine instruction after another, and the expansion of a
well-formed one is well formed (R510, R514, 48_pseudo.md; log 23: in the model as one `exec`). -/
def Obligations.pseudo_runs_expansion : Prop :=
  ∀ (i : Instr) (s : State), exec i s = runAll (i.expand s.cfg.xlen) s ∧
    ∀ j ∈ i.expand s.cfg.xlen, isMachine s.cfg.xlen j ∧ (i.wf s.cfg = true → j.wf s.cfg = true)

/-! ### One step -/

/-- A step runs the instruction whose bytes lie at the pc. With `u` the state in which the step begins (its
inputs sampled, an idle `wfi` resumed, the model's counter advanced): no interrupt is taken, the pc is
aligned, the bytes there are ram, were not stored to since the last `fence.i`, and are the bytes of a code
word that decodes to `i`; then the step is `exec i` (R14, 00_scope.md; R81, R82, 20_memory.md). -/
def Obligations.step_runs_decoded : Prop :=
  ∀ (s u : State) (code : Code) (i : Instr), u = s.begin → u.irqToTake = none →
    (u.cfg.c = true ∨ u.pc.toNat / 2 % 2 = 0) →
    (∀ k, k < code.len → u.classAt (byteAddr u.cfg.xlen u.pc k) = .ram ∧
      u.stale.find (byteAddr u.cfg.xlen u.pc k) = none ∧
      code.bytes[k]? = some (u.mem.read (byteAddr u.cfg.xlen u.pc k))) →
    decodeCode u.cfg code = .ok i → step s = exec i u

/-- The state in which a step begins: the counter of the model advanced and the inputs sampled, nothing else. The
pending bits become the next of the inputs; when none is left, or under TRAP = halt, they stay. A hart that idles is
idle no more: when the step takes an interrupt its `wfi` has completed and the pc is past it, and otherwise the pc
stays and the step meets the same `wfi` again (R600, R601, R603, 60_exceptions.md; R251, 42_system.md; the form
of the idle hart and of the inputs is the model's choice, logs 17 and 19, and the counter is its own, log 20). -/
def Obligations.step_begins : Prop :=
  ∀ s : State, ∃ pending inputs pc', s.begin =
      { s with irqPending := pending, irqInputs := inputs, tick := s.tick + 1, idle := false, pc := pc' } ∧
    (s.cfg.trap = .halt ∨ s.irqInputs = [] → pending = s.irqPending ∧ inputs = s.irqInputs) ∧
    (s.cfg.trap = .machine → ∀ b rest, s.irqInputs = b :: rest → pending = b ∧ inputs = rest) ∧
    (let wakes := s.idle = true ∧ (∃ i, s.begin.Pending i) ∧ (s.priv = .machine → s.mie = true)
     (wakes → pc'.toNat = s.wrap (s.upc + 4)) ∧ (¬wakes → pc' = s.pc))

/-- What a fetch raises, in the order of priority: a misaligned pc, a first parcel that is not ram, a second
parcel that is not ram; and a fetched word that decodes to nothing available is illegal, with the word
zero-extended. A dirty byte is fetched as the draw that R95 allows in place of the refusal `stale-fetch`: the model's
choice (log 18) (R81, R95, 20_memory.md; R142, 30_encoding.md; R581, R584, R585, 60_exceptions.md). -/
def Obligations.fetch_exceptions : Prop :=
  ∀ s u : State, u = s.begin → u.irqToTake = none →
    (u.cfg.c = false → u.pc.toNat / 2 % 2 = 1 →
      u.EndsTrap (step s) (.instrMisaligned u.pc) 0 u.pc.toNat) ∧
    ((u.cfg.c = true ∨ u.pc.toNat / 2 % 2 = 0) →
      (∃ k, k < 2 ∧ u.classAt (byteAddr u.cfg.xlen u.pc k) ≠ .ram) →
      u.EndsTrap (step s) (.instrAccess u.pc) 1 u.pc.toNat) ∧
    ((u.cfg.c = true ∨ u.pc.toNat / 2 % 2 = 0) →
      (∀ k, k < 2 → u.classAt (byteAddr u.cfg.xlen u.pc k) = .ram) →
      (u.fetchByte (byteAddr u.cfg.xlen u.pc 0)).toNat % 4 = 3 →
      (∃ k, k < 2 ∧ u.classAt (byteAddr u.cfg.xlen (u.addr 0 (u.upc + 2)) k) ≠ .ram) →
      u.EndsTrap (step s) (.instrAccess (u.addr 0 (u.upc + 2))) 1 (u.wrap (u.upc + 2))) ∧
    ∀ (code : Code) (why : DecodeError), u.fetch = .ok code → decodeCode u.cfg code = .error why →
      u.EndsTrap (step s) (.illegal code.toWord) 2 code.toWord.toNat

/-- No step is ever refused and the parameters of a run never change: under TRAP = machine every step from every
state answers a next state, and under TRAP = halt a step that does not ends the run with an exception. That a fetch of
a dirty byte does not end the run is the model's choice (log 18): R646 b lists the refusal `stale-fetch`, and R95 lets
a model replace it by a draw between the byte's value at the last `fence.i` and its current value. The other refusals
of R646 b answer requests that the model has no way to make: NHARTS is 1 (log 30), and there is no paging and no
delegation (R56, 10_state.md; R85, R95, 20_memory.md; R590, R591, R595, 60_exceptions.md; R646,
70_reset_and_hazards.md). -/
def Obligations.step_never_stuck : Prop :=
  ∀ s : State, (∀ t, step s = .next t → t.cfg = s.cfg) ∧
    (s.cfg.trap = .machine → ∃ t, step s = .next t) ∧
    (s.cfg.trap = .halt → (∃ t, step s = .next t) ∨ ∃ e pc, step s = .fault (.trapped e pc))

/-! ### Reset (70_reset_and_hazards.md) -/

/-- Reset builds the initial state from the parameters, the image and what the spec leaves unspecified: every
field that the spec gives a value has it, memory is the image, and every unspecified register can hold any value
(R57, 10_state.md; R630, R631, 70_reset_and_hazards.md; that `State.reset` is the initial state of one choice of
them is the model's, logs 2 to 8, 10 and 19). -/
def Obligations.reset_state : Prop :=
  (State.reset = State.initial Config.reset [] PowerOn.chosen ∧ Config.reset.wf = true) ∧
  ∀ (cfg : Config) (image : Memory) (u : PowerOn),
    let t := State.initial cfg image u
    (t.cfg = cfg ∧ (cfg.wf = true → t.pc = cfg.resetPc) ∧ t.priv = .machine ∧ t.mie = false ∧ t.mcause = 0 ∧
      t.readCsr .mip = 0 ∧ t.readX 0 = 0 ∧ t.reservation = none ∧ t.stale = [] ∧ t.idle = false ∧
      t.ioTrace = []) ∧
    (image.wf = true → (∀ c ∈ image, c.1 < t.modulus) → t.mem = image) ∧
    (t.x = u.x ∧ t.f = u.f ∧ t.fcsr = u.fcsr ∧ t.mpie = u.mpie ∧ t.sie = u.sie ∧ t.spie = u.spie ∧
      t.spp = u.spp ∧ t.mtvec = u.mtvec ∧ t.mtval = u.mtval ∧ t.mscratch = u.mscratch ∧
      t.irqEnable = u.irqEnable ∧ t.irqInputs = u.irqInputs ∧ (cfg.modes.has u.mpp = true → t.mpp = u.mpp) ∧
      t.mepc.toNat = t.evenPc u.mepc ∧ t.sepc.toNat = t.evenPc u.sepc)

/-- Both invariants hold in every initial state: whatever the image, and whatever the registers hold that the spec
leaves unspecified, since MPP is some implemented mode there and `mepc` and `sepc` have their low bits clear (R57,
10_state.md; R631, 70_reset_and_hazards.md). -/
def Obligations.reset_invariants : Prop :=
  (∀ (cfg : Config) (image : Memory) (u : PowerOn), (State.initial cfg image u).MemoryInv ∧
    (cfg.wf = true → (State.initial cfg image u).ControlInv)) ∧
  State.reset.MemoryInv ∧ State.reset.ControlInv

/-- Every step keeps memory in its canonical form and in the address space, and so the values kept beside the dirty
bytes (the form of both is the model's, logs 9 and 18; R70, 20_memory.md). -/
def Obligations.step_keeps_memory_inv : Prop :=
  ∀ s t : State, s.MemoryInv → step s = .next t → t.MemoryInv

/-- Every step keeps the pc and the exception pcs aligned and the mode and MPP implemented (R37, R48, R50, R51,
10_state.md). -/
def Obligations.step_keeps_control_inv : Prop :=
  ∀ s t : State, s.ControlInv → step s = .next t → t.ControlInv

/-! ### Integer registers and computation (40_rvi_compute.md, 43_rvm.md) -/

/-- `x0` reads as zero and a write to it has no effect (R31, 10_state.md). -/
def Obligations.x0_is_zero : Prop :=
  (∀ s : State, s.readX 0 = 0) ∧ ∀ (s : State) (v : Word), s.setX 0 v = s

/-- Sums, differences and upper immediates, modulo `2^XLEN` (R161, R162, R167, R168, R187). -/
def Obligations.add_sub_upper : Prop :=
  ∀ (s : State) (rd rs1 rs2 : Reg) (imm : BitVec 12) (up : BitVec 20),
    s.EndsX (exec (.add rd rs1 rs2) s) 4 rd (s.ux rs1 + s.ux rs2) ∧
    s.EndsX (exec (.addi rd rs1 imm) s) 4 rd (s.ux rs1 + imm.toInt) ∧
    s.EndsX (exec (.sub rd rs1 rs2) s) 4 rd (s.ux rs1 - s.ux rs2) ∧
    s.EndsX (exec (.lui rd up) s) 4 rd (up.toInt * 2 ^ 12) ∧
    s.EndsX (exec (.auipc rd up) s) 4 rd (s.upc + up.toInt * 2 ^ 12)

/-- The bitwise operations; an immediate is sign-extended to XLEN bits (R160 c, R165, R166, R169, R170, R189,
R190), and the comparisons, which write 1 or 0; `sltiu` compares with the sign-extended immediate read as
unsigned (R175 to R178). -/
def Obligations.bitwise_and_compare : Prop :=
  ∀ (s : State) (rd rs1 rs2 : Reg) (imm : BitVec 12),
    s.EndsX (exec (.and rd rs1 rs2) s) 4 rd ((s.ux rs1 &&& s.ux rs2 : Nat) : Int) ∧
    s.EndsX (exec (.or rd rs1 rs2) s) 4 rd ((s.ux rs1 ||| s.ux rs2 : Nat) : Int) ∧
    s.EndsX (exec (.xor rd rs1 rs2) s) 4 rd ((s.ux rs1 ^^^ s.ux rs2 : Nat) : Int) ∧
    s.EndsX (exec (.andi rd rs1 imm) s) 4 rd ((s.ux rs1 &&& s.wrap imm.toInt : Nat) : Int) ∧
    s.EndsX (exec (.ori rd rs1 imm) s) 4 rd ((s.ux rs1 ||| s.wrap imm.toInt : Nat) : Int) ∧
    s.EndsX (exec (.xori rd rs1 imm) s) 4 rd ((s.ux rs1 ^^^ s.wrap imm.toInt : Nat) : Int) ∧
    s.EndsX (exec (.slt rd rs1 rs2) s) 4 rd (if s.sx rs1 < s.sx rs2 then 1 else 0) ∧
    s.EndsX (exec (.slti rd rs1 imm) s) 4 rd (if s.sx rs1 < imm.toInt then 1 else 0) ∧
    s.EndsX (exec (.sltu rd rs1 rs2) s) 4 rd (if s.ux rs1 < s.ux rs2 then 1 else 0) ∧
    s.EndsX (exec (.sltiu rd rs1 imm) s) 4 rd (if s.ux rs1 < s.wrap imm.toInt then 1 else 0)

/-- Shifts as products and floor quotients by powers of two; a register shift uses the low five or six bits of
`x[rs2]` (R171, R172, R179, R180, R183, R184). -/
def Obligations.shifts : Prop :=
  ∀ (s : State) (rd rs1 rs2 : Reg) (shamt : BitVec 6),
    s.EndsX (exec (.sll rd rs1 rs2) s) 4 rd (s.ux rs1 * 2 ^ (s.ux rs2 % s.cfg.xlen.bits)) ∧
    s.EndsX (exec (.srl rd rs1 rs2) s) 4 rd (s.ux rs1 / 2 ^ (s.ux rs2 % s.cfg.xlen.bits)) ∧
    s.EndsX (exec (.sra rd rs1 rs2) s) 4 rd (s.sx rs1 / 2 ^ (s.ux rs2 % s.cfg.xlen.bits)) ∧
    s.EndsX (exec (.slli rd rs1 shamt) s) 4 rd (s.ux rs1 * 2 ^ shamt.toNat) ∧
    s.EndsX (exec (.srli rd rs1 shamt) s) 4 rd (s.ux rs1 / 2 ^ shamt.toNat) ∧
    s.EndsX (exec (.srai rd rs1 shamt) s) 4 rd (s.sx rs1 / 2 ^ shamt.toNat)

/-- The word forms compute on the low 32 bits and write the sign-extended 32-bit result (R160 d, R163, R164, R173,
R174, R181, R182, R185, R186, R188). -/
def Obligations.word_forms : Prop :=
  ∀ (s : State) (rd rs1 rs2 : Reg) (imm : BitVec 12) (shamt : BitVec 5),
    s.EndsX (exec (.addw rd rs1 rs2) s) 4 rd (word32 (s.ux32 rs1 + s.ux32 rs2)) ∧
    s.EndsX (exec (.subw rd rs1 rs2) s) 4 rd (word32 (s.ux32 rs1 - s.ux32 rs2)) ∧
    s.EndsX (exec (.addiw rd rs1 imm) s) 4 rd (word32 (s.ux32 rs1 + imm.toInt)) ∧
    s.EndsX (exec (.sllw rd rs1 rs2) s) 4 rd (word32 (s.ux32 rs1 * 2 ^ (s.ux rs2 % 32))) ∧
    s.EndsX (exec (.srlw rd rs1 rs2) s) 4 rd (word32 (s.ux32 rs1 / 2 ^ (s.ux rs2 % 32))) ∧
    s.EndsX (exec (.sraw rd rs1 rs2) s) 4 rd (s.sx32 rs1 / 2 ^ (s.ux rs2 % 32)) ∧
    s.EndsX (exec (.slliw rd rs1 shamt) s) 4 rd (word32 (s.ux32 rs1 * 2 ^ shamt.toNat)) ∧
    s.EndsX (exec (.srliw rd rs1 shamt) s) 4 rd (word32 (s.ux32 rs1 / 2 ^ shamt.toNat)) ∧
    s.EndsX (exec (.sraiw rd rs1 shamt) s) 4 rd (s.sx32 rs1 / 2 ^ shamt.toNat)

/-- Products: the low half, and the three upper halves as floor quotients by `2^XLEN` (R271, R273 to R277). -/
def Obligations.multiply : Prop :=
  ∀ (s : State) (rd rs1 rs2 : Reg),
    s.EndsX (exec (.mul rd rs1 rs2) s) 4 rd (s.ux rs1 * s.ux rs2) ∧
    s.EndsX (exec (.mulh rd rs1 rs2) s) 4 rd (s.sx rs1 * s.sx rs2 / s.modulus) ∧
    s.EndsX (exec (.mulhsu rd rs1 rs2) s) 4 rd (s.sx rs1 * s.ux rs2 / s.modulus) ∧
    s.EndsX (exec (.mulhu rd rs1 rs2) s) 4 rd (s.ux rs1 * s.ux rs2 / s.modulus) ∧
    s.EndsX (exec (.mulw rd rs1 rs2) s) 4 rd (word32 (s.ux32 rs1 * s.ux32 rs2))

/-- Quotients toward zero and their remainders: all ones and the dividend for a zero divisor; the most negative
value divided by -1 gives itself and 0, which is what `2^(W-1)` wraps to (R272 with its table DIVZ, log 30; R278 to R285). -/
def Obligations.divide : Prop :=
  ∀ (s : State) (rd rs1 rs2 : Reg),
    s.EndsX (exec (.div rd rs1 rs2) s) 4 rd
      (if s.ux rs2 = 0 then -1 else (s.sx rs1).tdiv (s.sx rs2)) ∧
    s.EndsX (exec (.divu rd rs1 rs2) s) 4 rd
      (if s.ux rs2 = 0 then -1 else ((s.ux rs1 / s.ux rs2 : Nat) : Int)) ∧
    s.EndsX (exec (.rem rd rs1 rs2) s) 4 rd
      (if s.ux rs2 = 0 then s.sx rs1 else (s.sx rs1).tmod (s.sx rs2)) ∧
    s.EndsX (exec (.remu rd rs1 rs2) s) 4 rd
      (if s.ux rs2 = 0 then s.ux rs1 else ((s.ux rs1 % s.ux rs2 : Nat) : Int)) ∧
    s.EndsX (exec (.divw rd rs1 rs2) s) 4 rd
      (if s.ux32 rs2 = 0 then -1 else word32 ((s.sx32 rs1).tdiv (s.sx32 rs2))) ∧
    s.EndsX (exec (.divuw rd rs1 rs2) s) 4 rd
      (if s.ux32 rs2 = 0 then -1 else word32 ((s.ux32 rs1 / s.ux32 rs2 : Nat) : Int)) ∧
    s.EndsX (exec (.remw rd rs1 rs2) s) 4 rd
      (if s.ux32 rs2 = 0 then s.sx32 rs1 else word32 ((s.sx32 rs1).tmod (s.sx32 rs2))) ∧
    s.EndsX (exec (.remuw rd rs1 rs2) s) 4 rd
      (if s.ux32 rs2 = 0 then s.sx32 rs1 else word32 ((s.ux32 rs1 % s.ux32 rs2 : Nat) : Int))

/-- The compressed computations end two bytes on (R452, R460 to R471, R475 to R480, 47_rvc.md). -/
def Obligations.compressed_compute : Prop :=
  ∀ (s : State) (rd rs2 : Reg) (r r2 : CReg) (u8 : BitVec 8) (imm : BitVec 6),
    s.EndsX (exec (.c_addi4spn r u8) s) 2 r.full (s.ux 2 + u8.toNat * 4) ∧
    s.EndsX (exec (.c_addi rd imm) s) 2 rd (s.ux rd + imm.toInt) ∧
    s.EndsX (exec (.c_addiw rd imm) s) 2 rd (word32 (s.ux32 rd + imm.toInt)) ∧
    s.EndsX (exec (.c_li rd imm) s) 2 rd imm.toInt ∧
    s.EndsX (exec (.c_addi16sp imm) s) 2 2 (s.ux 2 + imm.toInt * 16) ∧
    s.EndsX (exec (.c_lui rd imm) s) 2 rd (imm.toInt * 2 ^ 12) ∧
    s.EndsX (exec (.c_slli rd imm) s) 2 rd (s.ux rd * 2 ^ imm.toNat) ∧
    s.EndsX (exec (.c_srli r imm) s) 2 r.full (s.ux r.full / 2 ^ imm.toNat) ∧
    s.EndsX (exec (.c_srai r imm) s) 2 r.full (s.sx r.full / 2 ^ imm.toNat) ∧
    s.EndsX (exec (.c_andi r imm) s) 2 r.full ((s.ux r.full &&& s.wrap imm.toInt : Nat) : Int) ∧
    s.EndsX (exec (.c_mv rd rs2) s) 2 rd (s.ux rs2) ∧
    s.EndsX (exec (.c_add rd rs2) s) 2 rd (s.ux rd + s.ux rs2) ∧
    s.EndsX (exec (.c_sub r r2) s) 2 r.full (s.ux r.full - s.ux r2.full) ∧
    s.EndsX (exec (.c_xor r r2) s) 2 r.full ((s.ux r.full ^^^ s.ux r2.full : Nat) : Int) ∧
    s.EndsX (exec (.c_or r r2) s) 2 r.full ((s.ux r.full ||| s.ux r2.full : Nat) : Int) ∧
    s.EndsX (exec (.c_and r r2) s) 2 r.full ((s.ux r.full &&& s.ux r2.full : Nat) : Int) ∧
    s.EndsX (exec (.c_subw r r2) s) 2 r.full (word32 (s.ux32 r.full - s.ux32 r2.full)) ∧
    s.EndsX (exec (.c_addw r r2) s) 2 r.full (word32 (s.ux32 r.full + s.ux32 r2.full))

/-- The computational pseudoinstructions (R550 to R554, R562 to R566, 48_pseudo.md; log 23). -/
def Obligations.pseudo_compute : Prop :=
  ∀ (s : State) (rd rs : Reg),
    s.EndsX (exec .nop s) 4 0 0 ∧
    s.EndsX (exec (.mv rd rs) s) 4 rd (s.ux rs) ∧
    s.EndsX (exec (.not rd rs) s) 4 rd (-1 - s.ux rs) ∧
    s.EndsX (exec (.neg rd rs) s) 4 rd (-s.ux rs) ∧
    s.EndsX (exec (.negw rd rs) s) 4 rd (word32 (-s.ux32 rs)) ∧
    s.EndsX (exec (.sext_w rd rs) s) 4 rd (s.sx32 rs) ∧
    s.EndsX (exec (.seqz rd rs) s) 4 rd (if s.ux rs = 0 then 1 else 0) ∧
    s.EndsX (exec (.snez rd rs) s) 4 rd (if s.ux rs = 0 then 0 else 1) ∧
    s.EndsX (exec (.sltz rd rs) s) 4 rd (if s.sx rs < 0 then 1 else 0) ∧
    s.EndsX (exec (.sgtz rd rs) s) 4 rd (if 0 < s.sx rs then 1 else 0)

/-- `li` leaves the constant in `x[rd]` and ends after its expansion (R513, R548, 48_pseudo.md; log 23). -/
def Obligations.li_loads_constant : Prop :=
  ∀ (s : State) (rd : Reg) (imm : Word), (s.cfg.xlen = .rv32 → imm = (imm.setWidth 32).signExtend 64) →
    s.EndsX (exec (.li rd imm) s) (4 * (liSteps s.cfg.xlen imm).length) rd imm.toInt

/-! ### Control transfer (41_rvi_control_mem.md) -/

/-- A branch goes to the pc plus its offset when its condition holds and to the next instruction otherwise, and
changes nothing else; a taken branch needs a target that does not raise (R200 to R206; R515 to R524,
48_pseudo.md; log 23). -/
def Obligations.branches : Prop :=
  ∀ (s : State) (a b : Reg) (off : BitVec 12),
    let go : Prop → Instr → Prop := fun taken i =>
      (taken → s.TargetOk (s.upc + off.toInt * 2) → s.EndsAt (exec i s) (s.upc + off.toInt * 2) 0 0) ∧
        (¬taken → s.EndsAt (exec i s) (s.upc + 4) 0 0)
    go (s.ux a = s.ux b) (.beq a b off) ∧ go (s.ux a ≠ s.ux b) (.bne a b off) ∧
    go (s.sx a < s.sx b) (.blt a b off) ∧ go (s.sx b ≤ s.sx a) (.bge a b off) ∧
    go (s.ux a < s.ux b) (.bltu a b off) ∧ go (s.ux b ≤ s.ux a) (.bgeu a b off) ∧
    go (s.ux a = 0) (.beqz a off) ∧ go (s.ux a ≠ 0) (.bnez a off) ∧
    go (s.sx a ≤ 0) (.blez a off) ∧ go (0 ≤ s.sx a) (.bgez a off) ∧
    go (s.sx a < 0) (.bltz a off) ∧ go (0 < s.sx a) (.bgtz a off) ∧
    go (s.sx b < s.sx a) (.bgt a b off) ∧ go (s.sx a ≤ s.sx b) (.ble a b off) ∧
    go (s.ux b < s.ux a) (.bgtu a b off) ∧ go (s.ux a ≤ s.ux b) (.bleu a b off)

/-- The compressed branches and jumps: offsets from the instruction itself, links two bytes on (R452, R472, R474,
R481 to R484, 47_rvc.md). -/
def Obligations.compressed_control : Prop :=
  ∀ (s : State) (r : CReg) (rs : Reg) (off : BitVec 8) (far : BitVec 11),
    (s.ux r.full = 0 → s.TargetOk (s.upc + off.toInt * 2) →
      s.EndsAt (exec (.c_beqz r off) s) (s.upc + off.toInt * 2) 0 0) ∧
    (s.ux r.full ≠ 0 → s.EndsAt (exec (.c_beqz r off) s) (s.upc + 2) 0 0) ∧
    (s.ux r.full ≠ 0 → s.TargetOk (s.upc + off.toInt * 2) →
      s.EndsAt (exec (.c_bnez r off) s) (s.upc + off.toInt * 2) 0 0) ∧
    (s.ux r.full = 0 → s.EndsAt (exec (.c_bnez r off) s) (s.upc + 2) 0 0) ∧
    (s.TargetOk (s.upc + far.toInt * 2) →
      s.EndsAt (exec (.c_j far) s) (s.upc + far.toInt * 2) 0 0 ∧
      s.EndsAt (exec (.c_jal far) s) (s.upc + far.toInt * 2) 1 (s.upc + 2)) ∧
    (s.TargetOk (s.ux rs) →
      s.EndsAt (exec (.c_jr rs) s) (s.masked (s.ux rs)) 0 0 ∧
      s.EndsAt (exec (.c_jalr rs) s) (s.masked (s.ux rs)) 1 (s.upc + 2))

/-- Jumps write the address of the next instruction to `x[rd]`; `jalr` reads `x[rs1]` first and masks bit 0 of
its target (R207, R208; R545, R546, R561, 48_pseudo.md; log 23). -/
def Obligations.jumps : Prop :=
  ∀ (s : State) (rd rs1 : Reg) (off : BitVec 20) (low : BitVec 12),
    (s.TargetOk (s.upc + off.toInt * 2) →
      s.EndsAt (exec (.jal rd off) s) (s.upc + off.toInt * 2) rd (s.upc + 4) ∧
      s.EndsAt (exec (.j off) s) (s.upc + off.toInt * 2) 0 0) ∧
    (s.TargetOk (s.ux rs1 + low.toInt) →
      s.EndsAt (exec (.jalr rd rs1 low) s) (s.masked (s.ux rs1 + low.toInt)) rd (s.upc + 4)) ∧
    (s.TargetOk (s.ux rs1) → s.EndsAt (exec (.jr rs1) s) (s.masked (s.ux rs1)) 0 0) ∧
    (s.TargetOk (s.ux 1) → s.EndsAt (exec .ret s) (s.masked (s.ux 1)) 0 0)

/-- Without C a taken branch or a jump to a target with bit 1 set raises the exception with the target, and
writes no register: not `x[rd]` either (R83, 20_memory.md). -/
def Obligations.misaligned_target_raises : Prop :=
  ∀ (s : State) (rd rs1 rs2 : Reg) (off : BitVec 12) (far : BitVec 20),
    let raises : Int → Instr → Prop := fun target i => ¬s.TargetOk target →
      s.EndsTrap (exec i s) (.instrMisaligned (BitVec.ofNat 64 (s.wrap target))) 0 (s.wrap target)
    (s.ux rs1 = s.ux rs2 → raises (s.upc + off.toInt * 2) (.beq rs1 rs2 off)) ∧
    (s.ux rs1 ≠ s.ux rs2 → raises (s.upc + off.toInt * 2) (.bne rs1 rs2 off)) ∧
    (s.sx rs1 < s.sx rs2 → raises (s.upc + off.toInt * 2) (.blt rs1 rs2 off)) ∧
    (s.sx rs2 ≤ s.sx rs1 → raises (s.upc + off.toInt * 2) (.bge rs1 rs2 off)) ∧
    (s.ux rs1 < s.ux rs2 → raises (s.upc + off.toInt * 2) (.bltu rs1 rs2 off)) ∧
    (s.ux rs2 ≤ s.ux rs1 → raises (s.upc + off.toInt * 2) (.bgeu rs1 rs2 off)) ∧
    raises (s.upc + far.toInt * 2) (.jal rd far) ∧
    raises (s.masked (s.ux rs1 + off.toInt)) (.jalr rd rs1 off)

/-- The pseudoinstructions that reach a symbol: `call` links past its two instructions, `tail` leaves the upper part
in `x6`, `lla` and `la` leave the address, or what the Global Offset Table holds there. With `rd` = `x0` the
upper part is lost, as the expansion has it (R512, R525, R547, R549, R567, 48_pseudo.md; log 23). -/
def Obligations.pseudo_symbols : Prop :=
  ∀ (s : State) (rd : Reg) (hi : BitVec 20) (lo : BitVec 12),
    let upper : Int := s.upc + hi.toInt * 2 ^ 12
    let sym : Int := (if rd = 0#5 then 0 else upper) + lo.toInt
    let a : Word := BitVec.ofNat 64 (s.wrap sym)
    (s.TargetOk sym → s.EndsAt (exec (.call rd hi lo) s) (s.masked sym) rd (s.upc + 8)) ∧
    (s.TargetOk (upper + lo.toInt) →
      s.EndsAt (exec (.tail hi lo) s) (s.masked (upper + lo.toInt)) 6 upper) ∧
    s.EndsX (exec (.lla rd hi lo) s) 8 rd sym ∧
    s.EndsX (exec (.la rd false hi lo) s) 8 rd sym ∧
    (s.cfg.xlen = .rv32 → s.Accessible a 4 →
      s.EndsX (exec (.la rd true hi lo) s) 8 rd (s.numberAt a 4)) ∧
    (s.cfg.xlen = .rv64 → s.Accessible a 8 →
      s.EndsX (exec (.la rd true hi lo) s) 8 rd (s.numberAt a 8))

/-! ### Loads, stores and fences (20_memory.md, 41_rvi_control_mem.md) -/

/-- An integer load writes the little-endian number at its address, extended to XLEN bits, and leaves memory alone;
a compressed load has an unsigned scaled offset from a register or the stack pointer (R72, R73, R77, 20_memory.md;
R210 to R217; R485, R486, R493, R494, 47_rvc.md). -/
def Obligations.loads : Prop :=
  ∀ (s : State) (rd rs1 : Reg) (r r1 : CReg) (off : BitVec 12) (u5 : BitVec 5) (u6 : BitVec 6),
    let a := s.addr rs1 off.toInt
    let signed : Word → Nat → Int → Reg → Instr → Prop := fun a n len d i => s.Accessible a n →
      s.EndsX (exec i s) len d ((s.numberAt a n : Int).bmod (2 ^ (8 * n)))
    let unsigned : Word → Nat → Int → Reg → Instr → Prop := fun a n len d i => s.Accessible a n →
      s.EndsX (exec i s) len d (s.numberAt a n)
    signed a 1 4 rd (.lb rd rs1 off) ∧ signed a 2 4 rd (.lh rd rs1 off) ∧
    signed a 4 4 rd (.lw rd rs1 off) ∧ unsigned a 1 4 rd (.lbu rd rs1 off) ∧
    unsigned a 2 4 rd (.lhu rd rs1 off) ∧ unsigned a 4 4 rd (.lwu rd rs1 off) ∧
    unsigned a 8 4 rd (.ld rd rs1 off) ∧
    signed (s.addr r1.full (u5.toNat * 4)) 4 2 r.full (.c_lw r r1 u5) ∧
    signed (s.addr 2 (u6.toNat * 4)) 4 2 rd (.c_lwsp rd u6) ∧
    unsigned (s.addr r1.full (u5.toNat * 8)) 8 2 r.full (.c_ld r r1 u5) ∧
    unsigned (s.addr 2 (u6.toNat * 8)) 8 2 rd (.c_ldsp rd u6)

/-- The floating-point loads: `flw` boxes the word, `fld` copies the doubleword; no flag changes (R342, R379,
45_rvf.md; R435, 46_rvd.md), and the compressed forms of both (R487 to R500, 47_rvc.md). -/
def Obligations.float_loads : Prop :=
  ∀ (s : State) (rd rs1 : Reg) (r r1 : CReg) (off : BitVec 12) (u5 : BitVec 5) (u6 : BitVec 6),
    let word : Word → Int → Reg → Instr → Prop := fun a len d i => s.Accessible a 4 →
      s.EndsF (exec i s) len d (s.boxed (BitVec.ofNat 32 (s.numberAt a 4))) 0
    let double : Word → Int → Reg → Instr → Prop := fun a len d i => s.cfg.fp = .fd → s.Accessible a 8 →
      s.EndsF (exec i s) len d (BitVec.ofNat 64 (s.numberAt a 8)) 0
    word (s.addr rs1 off.toInt) 4 rd (.flw rd rs1 off) ∧
    word (s.addr r1.full (u5.toNat * 4)) 2 r.full (.c_flw r r1 u5) ∧
    word (s.addr 2 (u6.toNat * 4)) 2 rd (.c_flwsp rd u6) ∧
    double (s.addr rs1 off.toInt) 4 rd (.fld rd rs1 off) ∧
    double (s.addr r1.full (u5.toNat * 8)) 2 r.full (.c_fld r r1 u5) ∧
    double (s.addr 2 (u6.toNat * 8)) 2 rd (.c_fldsp rd u6)

/-- A store writes the low bytes of a register at its address, the lowest first, marks them dirty, and changes
nothing else; a store to a device goes to the output trace. The model's choices: the reservation stays (log 29: R218
and R305 disagree), the trace holds single bytes, lowest address first (log 15), and the value at the last
`fence.i` is kept beside a dirty byte (log 18) (R72, R74, R77, R79, R95, 20_memory.md; R218 to R222;
R305, 44_rva.md; R380, 45_rvf.md; R436, 46_rvd.md; R489 to R492, R497 to R500, 47_rvc.md). -/
def Obligations.stores : Prop :=
  ∀ (s : State) (rs1 rs2 : Reg) (r1 r2 : CReg) (off : BitVec 12) (u5 : BitVec 5) (u6 : BitVec 6),
    let a := s.addr rs1 off.toInt
    let near4 := s.addr r1.full (u5.toNat * 4)
    let near8 := s.addr r1.full (u5.toNat * 8)
    let stack4 := s.addr 2 (u6.toNat * 4)
    let stack8 := s.addr 2 (u6.toNat * 8)
    let goes : Word → Nat → Int → Nat → Instr → Prop := fun a n len v i => s.Accessible a n →
      s.EndsStore (exec i s) len a n v
    goes a 1 4 (s.ux rs2) (.sb rs1 rs2 off) ∧ goes a 2 4 (s.ux rs2) (.sh rs1 rs2 off) ∧
    goes a 4 4 (s.ux rs2) (.sw rs1 rs2 off) ∧ goes a 8 4 (s.ux rs2) (.sd rs1 rs2 off) ∧
    goes a 4 4 (s.readF rs2).toNat (.fsw rs1 rs2 off) ∧
    goes a 8 4 (s.readF rs2).toNat (.fsd rs1 rs2 off) ∧
    goes near4 4 2 (s.ux r2.full) (.c_sw r1 r2 u5) ∧ goes near8 8 2 (s.ux r2.full) (.c_sd r1 r2 u5) ∧
    goes near4 4 2 (s.readF r2.full).toNat (.c_fsw r1 r2 u5) ∧
    goes near8 8 2 (s.readF r2.full).toNat (.c_fsd r1 r2 u5) ∧
    goes stack4 4 2 (s.ux rs2) (.c_swsp rs2 u6) ∧ goes stack8 8 2 (s.ux rs2) (.c_sdsp rs2 u6) ∧
    goes stack4 4 2 (s.readF rs2).toNat (.c_fswsp rs2 u6) ∧
    goes stack8 8 2 (s.readF rs2).toNat (.c_fsdsp rs2 u6)

/-- What a load or a store raises: under MISALIGNED = trap a misaligned address first, then a byte that is
neither memory nor a device; the trap value is the effective address, and the compressed forms raise what their
expansions do. That under MISALIGNED = split a faulting access writes nothing and reports the effective address, not
that of the byte, is deduced (log 21) (R75, R76, 20_memory.md; R210, R218; R452, 47_rvc.md; R583, R585,
60_exceptions.md). -/
def Obligations.access_exceptions : Prop :=
  ∀ (s : State) (r rs1 : Reg) (c c1 : CReg) (off : BitVec 12) (u5 : BitVec 5) (u6 : BitVec 6),
    let a := s.addr rs1 off.toInt
    let near4 := s.addr c1.full (u5.toNat * 4)
    let near8 := s.addr c1.full (u5.toNat * 8)
    let stack4 := s.addr 2 (u6.toNat * 4)
    let stack8 := s.addr 2 (u6.toNat * 8)
    let load : Nat → Word → Instr → Prop := fun n a i =>
      (s.cfg.misaligned = .trap → a.toNat % n ≠ 0 → s.EndsTrap (exec i s) (.loadMisaligned a) 4 a.toNat) ∧
      ((s.cfg.misaligned = .split ∨ a.toNat % n = 0) →
        (∃ k, k < n ∧ s.classAt (byteAddr s.cfg.xlen a k) = .none) →
        s.EndsTrap (exec i s) (.loadAccess a) 5 a.toNat)
    let store : Nat → Word → Instr → Prop := fun n a i =>
      (s.cfg.misaligned = .trap → a.toNat % n ≠ 0 → s.EndsTrap (exec i s) (.storeMisaligned a) 6 a.toNat) ∧
      ((s.cfg.misaligned = .split ∨ a.toNat % n = 0) →
        (∃ k, k < n ∧ s.classAt (byteAddr s.cfg.xlen a k) = .none) →
        s.EndsTrap (exec i s) (.storeAccess a) 7 a.toNat)
    load 1 a (.lb r rs1 off) ∧ load 1 a (.lbu r rs1 off) ∧ load 2 a (.lh r rs1 off) ∧
    load 2 a (.lhu r rs1 off) ∧ load 4 a (.lw r rs1 off) ∧ load 4 a (.lwu r rs1 off) ∧
    load 8 a (.ld r rs1 off) ∧ load 4 a (.flw r rs1 off) ∧ load 8 a (.fld r rs1 off) ∧
    load 4 near4 (.c_lw c c1 u5) ∧ load 8 near8 (.c_ld c c1 u5) ∧ load 4 near4 (.c_flw c c1 u5) ∧
    load 8 near8 (.c_fld c c1 u5) ∧ load 4 stack4 (.c_lwsp r u6) ∧ load 8 stack8 (.c_ldsp r u6) ∧
    load 4 stack4 (.c_flwsp r u6) ∧ load 8 stack8 (.c_fldsp r u6) ∧
    store 1 a (.sb rs1 r off) ∧ store 2 a (.sh rs1 r off) ∧ store 4 a (.sw rs1 r off) ∧
    store 8 a (.sd rs1 r off) ∧ store 4 a (.fsw rs1 r off) ∧ store 8 a (.fsd rs1 r off) ∧
    store 4 near4 (.c_sw c1 c u5) ∧ store 8 near8 (.c_sd c1 c u5) ∧ store 4 near4 (.c_fsw c1 c u5) ∧
    store 8 near8 (.c_fsd c1 c u5) ∧ store 4 stack4 (.c_swsp r u6) ∧ store 8 stack8 (.c_sdsp r u6) ∧
    store 4 stack4 (.c_fswsp r u6) ∧ store 8 stack8 (.c_fsdsp r u6)

/-- `fence` only advances the pc, whatever its sets; `fence.i` also makes every stored byte visible to fetches,
which then read memory; `sfence.vma` changes nothing where it is allowed and is illegal elsewhere, whatever its
operands (R92, R94, R95, R96, 20_memory.md; R226, R227; R252, 42_system.md; R610, 60_exceptions.md). -/
def Obligations.fences : Prop :=
  ∀ (s : State) (pred succ : BitVec 4) (rs1 rs2 : Reg),
    s.EndsAt (exec (.fence pred succ) s) (s.upc + 4) 0 0 ∧
    Ends (exec .fence_i s) (fun t => t.pc.toNat = s.wrap (s.upc + 4) ∧ s.SameX t ∧ s.SameF t ∧
      t.fcsr = s.fcsr ∧ (∀ a, t.mem.read a = s.mem.read a) ∧ t.ioTrace = s.ioTrace ∧ s.SameSystem t ∧
      ∀ a, t.fetchByte a = s.mem.read a) ∧
    (s.cfg.modes = .msu → s.priv ≠ .user → s.EndsAt (exec (.sfence_vma rs1 rs2) s) (s.upc + 4) 0 0) ∧
    ((s.cfg.modes ≠ .msu ∨ s.priv = .user) →
      let w := 0x12000073 + rs2.toNat * 2 ^ 20 + rs1.toNat * 2 ^ 15
      s.EndsTrap (exec (.sfence_vma rs1 rs2) s) (.illegal (BitVec.ofNat 64 w)) 2 w)

/-! ### Atomics (44_rva.md) -/

/-- Load-reserved writes the extended value and holds a reservation of its address and size; a later
load-reserved replaces it (R303, R305; R52, 10_state.md). -/
def Obligations.load_reserved : Prop :=
  ∀ (s : State) (rd rs1 : Reg) (aq rl : BitVec 1),
    let a := s.addr rs1 0
    let ends : Outcome → Nat → Int → Prop := fun o n v => s.Atomic a n → Ends o fun t =>
      t.pc.toNat = s.wrap (s.upc + 4) ∧ t.ux rd = (if rd = 0#5 then 0 else s.wrap v) ∧ s.SameXBut t rd ∧
        s.SameF t ∧ t.fcsr = s.fcsr ∧ s.SameMem t ∧ s.SameTrap t ∧ s.SameCsr t ∧ s.SameRun t ∧
        t.idle = s.idle ∧ t.reservation = some { addr := a, size := n }
    ends (exec (.lr_w rd rs1 aq rl) s) 4 ((s.numberAt a 4 : Int).bmod (2 ^ 32)) ∧
    ends (exec (.lr_d rd rs1 aq rl) s) 8 (s.numberAt a 8)

/-- A store-conditional to the reserved address and width stores and writes 0 when the implementation never
fails one spuriously; a store-conditional outside the reservation set, which is the reserved bytes or the aligned
blocks of RES_GRANULE bytes that hold them, or with no reservation, stores nothing and writes a nonzero code; either
way the reservation is gone. A stored byte becomes dirty, beside which its value at the last `fence.i` is kept: the
model's choice of the two forms of R95 (log 18) (R304, R305; R74, R95, 20_memory.md). -/
def Obligations.store_conditional : Prop :=
  ∀ (s : State) (rd rs1 rs2 : Reg) (aq rl : BitVec 1),
    let a := s.addr rs1 0
    let rest : State → Prop := fun t => t.pc.toNat = s.wrap (s.upc + 4) ∧ s.SameXBut t rd ∧ s.SameF t ∧
      t.fcsr = s.fcsr ∧ s.SameTrap t ∧ s.SameCsr t ∧ s.SameRun t ∧ t.idle = s.idle ∧ t.reservation = none
    let stores : Nat → State → Prop := fun n t => rest t ∧ s.Stored t a n (s.ux rs2) ∧ t.ux rd = 0
    let fails : State → Prop := fun t => rest t ∧ s.SameMem t ∧ (rd ≠ 0#5 → t.ux rd ≠ 0)
    let claim : Nat → Instr → Prop := fun n i => s.Atomic a n →
      Ends (exec i s) (fun t => stores n t ∨ fails t) ∧
      (s.reservation = some { addr := a, size := n } → s.cfg.scFail = .never → Ends (exec i s) (stores n)) ∧
      (s.reservation = none → Ends (exec i s) fails) ∧
      (∀ r, s.reservation = some r → s.cfg.granule = none →
        (a.toNat < r.addr.toNat ∨ r.addr.toNat + r.size < a.toNat + n) → Ends (exec i s) fails) ∧
      (∀ r g, s.reservation = some r → s.cfg.granule = some g → 0 < g →
        (a.toNat / g < r.addr.toNat / g ∨ (r.addr.toNat + r.size - 1) / g < (a.toNat + n - 1) / g) →
        Ends (exec i s) fails)
    claim 4 (.sc_w rd rs1 rs2 aq rl) ∧ claim 8 (.sc_d rd rs1 rs2 aq rl)

/-- The word forms of the atomic memory operations: the old word, sign-extended, to `x[rd]` and the result of the
operation to memory. A stored byte becomes dirty, beside which its value at the last `fence.i` is kept: the model's
choice of the two forms of R95 (log 18) (R301, R310 to R327; R74, R95, 20_memory.md). -/
def Obligations.amo_words : Prop :=
  ∀ (s : State) (rd rs1 rs2 : Reg) (aq rl : BitVec 1),
    let a := s.addr rs1 0
    let t := s.numberAt a 4
    let t' : Int := (t : Int).bmod (2 ^ 32)
    let ends : Nat → Instr → Prop := fun w i => s.Atomic a 4 → s.EndsAmo (exec i s) rd t' a 4 w
    ends (s.ux32 rs2) (.amoswap_w rd rs1 rs2 aq rl) ∧
    ends (t + s.ux32 rs2) (.amoadd_w rd rs1 rs2 aq rl) ∧
    ends (t ^^^ s.ux32 rs2) (.amoxor_w rd rs1 rs2 aq rl) ∧
    ends (t &&& s.ux32 rs2) (.amoand_w rd rs1 rs2 aq rl) ∧
    ends (t ||| s.ux32 rs2) (.amoor_w rd rs1 rs2 aq rl) ∧
    ends (if s.sx32 rs2 < t' then s.ux32 rs2 else t) (.amomin_w rd rs1 rs2 aq rl) ∧
    ends (if t' < s.sx32 rs2 then s.ux32 rs2 else t) (.amomax_w rd rs1 rs2 aq rl) ∧
    ends (min t (s.ux32 rs2)) (.amominu_w rd rs1 rs2 aq rl) ∧
    ends (max t (s.ux32 rs2)) (.amomaxu_w rd rs1 rs2 aq rl)

/-- The doubleword forms of the atomic memory operations, which need XLEN = 64. A stored byte becomes dirty, beside
which its value at the last `fence.i` is kept: the model's choice of the two forms of R95 (log 18) (R301, R310 to
R327; R74, R95, 20_memory.md). -/
def Obligations.amo_doublewords : Prop :=
  ∀ (s : State) (rd rs1 rs2 : Reg) (aq rl : BitVec 1), s.cfg.xlen = .rv64 →
    let a := s.addr rs1 0
    let t := s.numberAt a 8
    let t' : Int := (t : Int).bmod (2 ^ 64)
    let ends : Nat → Instr → Prop := fun w i => s.Atomic a 8 → s.EndsAmo (exec i s) rd t a 8 w
    ends (s.ux rs2) (.amoswap_d rd rs1 rs2 aq rl) ∧
    ends (t + s.ux rs2) (.amoadd_d rd rs1 rs2 aq rl) ∧
    ends (t ^^^ s.ux rs2) (.amoxor_d rd rs1 rs2 aq rl) ∧
    ends (t &&& s.ux rs2) (.amoand_d rd rs1 rs2 aq rl) ∧
    ends (t ||| s.ux rs2) (.amoor_d rd rs1 rs2 aq rl) ∧
    ends (if s.sx rs2 < t' then s.ux rs2 else t) (.amomin_d rd rs1 rs2 aq rl) ∧
    ends (if t' < s.sx rs2 then s.ux rs2 else t) (.amomax_d rd rs1 rs2 aq rl) ∧
    ends (min t (s.ux rs2)) (.amominu_d rd rs1 rs2 aq rl) ∧
    ends (max t (s.ux rs2)) (.amomaxu_d rd rs1 rs2 aq rl)

/-- The address of an A instruction must be aligned whatever MISALIGNED is, and every byte ram: a device counts as
no memory. `lr` raises the load kind, `sc` and the AMOs the store kind (R306). -/
def Obligations.atomic_exceptions : Prop :=
  ∀ (s : State) (rd rs1 rs2 : Reg) (aq rl : BitVec 1),
    let a := s.addr rs1 0
    let claim : Exc → Nat → Exc → Nat → Nat → Instr → Prop := fun e1 c1 e2 c2 n i =>
      (a.toNat % n ≠ 0 → s.EndsTrap (exec i s) e1 c1 a.toNat) ∧
      (a.toNat % n = 0 → (∃ k, k < n ∧ s.classAt (byteAddr s.cfg.xlen a k) ≠ .ram) →
        s.EndsTrap (exec i s) e2 c2 a.toNat)
    let lr := claim (.loadMisaligned a) 4 (.loadAccess a) 5
    let st := claim (.storeMisaligned a) 6 (.storeAccess a) 7
    lr 4 (.lr_w rd rs1 aq rl) ∧ lr 8 (.lr_d rd rs1 aq rl) ∧ st 4 (.sc_w rd rs1 rs2 aq rl) ∧
    st 8 (.sc_d rd rs1 rs2 aq rl) ∧ st 4 (.amoswap_w rd rs1 rs2 aq rl) ∧
    st 8 (.amoswap_d rd rs1 rs2 aq rl) ∧ st 4 (.amoadd_w rd rs1 rs2 aq rl) ∧
    st 8 (.amoadd_d rd rs1 rs2 aq rl) ∧ st 4 (.amoxor_w rd rs1 rs2 aq rl) ∧
    st 8 (.amoxor_d rd rs1 rs2 aq rl) ∧ st 4 (.amoand_w rd rs1 rs2 aq rl) ∧
    st 8 (.amoand_d rd rs1 rs2 aq rl) ∧ st 4 (.amoor_w rd rs1 rs2 aq rl) ∧
    st 8 (.amoor_d rd rs1 rs2 aq rl) ∧ st 4 (.amomin_w rd rs1 rs2 aq rl) ∧
    st 8 (.amomin_d rd rs1 rs2 aq rl) ∧ st 4 (.amomax_w rd rs1 rs2 aq rl) ∧
    st 8 (.amomax_d rd rs1 rs2 aq rl) ∧ st 4 (.amominu_w rd rs1 rs2 aq rl) ∧
    st 8 (.amominu_d rd rs1 rs2 aq rl) ∧ st 4 (.amomaxu_w rd rs1 rs2 aq rl) ∧
    st 8 (.amomaxu_d rd rs1 rs2 aq rl)

/-! ### Exceptions, returns and privilege (42_system.md, 60_exceptions.md) -/

/-- The cause codes of R582, and trap entry, whole: under TRAP = machine an exception saves the pc, the cause, the trap value,
the enable and the mode, enters machine mode with interrupts off at the base of `mtvec`, and changes nothing else;
an interrupt does the same with its own cause, trap value 0 and, when `mtvec[1:0]` is 01, the vectored address
(R582, R584, R592). That the reserved values 10 and 11 of `mtvec[1:0]` send every trap to the base is deduced, log
25. -/
def Obligations.trap_entry : Prop :=
  (∀ w : Word, Exc.code (.instrMisaligned w) = 0 ∧ Exc.code (.instrAccess w) = 1 ∧
    Exc.code (.illegal w) = 2 ∧ Exc.code (.breakpoint w) = 3 ∧ Exc.code (.loadMisaligned w) = 4 ∧
    Exc.code (.loadAccess w) = 5 ∧ Exc.code (.storeMisaligned w) = 6 ∧ Exc.code (.storeAccess w) = 7 ∧
    Exc.code (.envCall .user) = 8 ∧ Exc.code (.envCall .supervisor) = 9 ∧
    Exc.code (.envCall .machine) = 11) ∧
  ∀ s : State, (∀ e : Exc, s.cfg.trap = .machine →
      Ends (s.raise e) fun t => s.Trapped t e.code e.info.toNat s.handler) ∧
    ∀ i : Nat, s.Trapped (s.takeIrq i) (2 ^ (s.cfg.xlen.bits - 1) + i) 0
      (if s.mtvec.toNat % 4 = 1 then s.handler + 4 * i else s.handler)

/-- `ecall` always enters the trap of its mode with trap value 0, and `ebreak` and `c.ebreak` the breakpoint with
their own pc (R247, R248, 42_system.md; R473, 47_rvc.md; R582, R584, 60_exceptions.md). -/
def Obligations.calls_and_breakpoints : Prop :=
  ∀ s : State,
    s.EndsTrap (exec .ecall s) (.envCall s.priv)
      (match s.priv with | .user => 8 | .supervisor => 9 | .machine => 11) 0 ∧
    s.EndsTrap (exec .ebreak s) (.breakpoint s.pc) 3 s.pc.toNat ∧
    s.EndsTrap (exec .c_ebreak s) (.breakpoint s.pc) 3 s.pc.toNat

/-- The returns. `mret` in machine mode: the pc from `mepc`, the mode from MPP, MIE from MPIE, MPIE set, and MPP to
user when there is a user mode. `sret` where S is implemented and the mode is not user: the pc from `sepc`, the mode
from SPP, SIE from SPIE, SPIE set and SPP cleared. Elsewhere each is illegal (R249, R250, 42_system.md). -/
def Obligations.trap_returns : Prop :=
  ∀ s : State,
    let rest : State → Prop := fun t => t.mepc = s.mepc ∧ t.mcause = s.mcause ∧ t.mtval = s.mtval ∧
      s.SameX t ∧ s.SameF t ∧ t.fcsr = s.fcsr ∧ s.SameMem t ∧ s.SameCsr t ∧ s.SameRun t ∧
      t.reservation = s.reservation ∧ t.idle = s.idle
    (s.priv = .machine → Ends (exec .mret s) fun t =>
      t.pc.toNat = s.evenPc s.mepc ∧ t.priv = s.mpp ∧ t.mie = s.mpie ∧ t.mpie = true ∧
        t.mpp = (if s.cfg.modes.has .user then .user else s.mpp) ∧ t.sie = s.sie ∧ t.spie = s.spie ∧
        t.spp = s.spp ∧ rest t) ∧
    (s.priv ≠ .machine → s.EndsTrap (exec .mret s) (.illegal 0x30200073) 2 0x30200073) ∧
    (s.cfg.modes = .msu → s.priv ≠ .user → Ends (exec .sret s) fun t =>
      t.pc.toNat = s.evenPc s.sepc ∧ t.priv = (if s.spp then .supervisor else .user) ∧ t.sie = s.spie ∧
        t.spie = true ∧ t.spp = false ∧ t.mie = s.mie ∧ t.mpie = s.mpie ∧ t.mpp = s.mpp ∧ rest t) ∧
    ((s.cfg.modes ≠ .msu ∨ s.priv = .user) →
      s.EndsTrap (exec .sret s) (.illegal 0x10200073) 2 0x10200073)

/-- `wfi` completes in every mode, or idles, changing nothing but the idle state, and it may idle only while no
enabled interrupt is pending (R251, 42_system.md; R603, 60_exceptions.md; log 17). -/
def Obligations.wfi_completes_or_idles : Prop :=
  ∀ s : State, ((∃ i, s.Pending i) → s.EndsAt (exec .wfi s) (s.upc + 4) 0 0) ∧
    (s.EndsAt (exec .wfi s) (s.upc + 4) 0 0 ∨
      (¬∃ i, s.Pending i) ∧ exec .wfi s = .next { s with idle := true })

/-- Nothing an instruction does in user mode reaches the state of the other modes, except by entering a trap: then
machine mode is entered at the handler with user mode recorded, and the rest of that state is unchanged (R240,
42_system.md; R592, R610, 60_exceptions.md). -/
def Obligations.user_mode_isolated : Prop :=
  ∀ (i : Instr) (s t : State), s.priv = .user → exec i s = .next t →
    s.SameCsr t ∧ t.sie = s.sie ∧ t.spie = s.spie ∧ t.spp = s.spp ∧
      (s.SameTrap t ∨
        t.priv = .machine ∧ t.mpp = .user ∧ t.mie = false ∧ t.mpie = s.mie ∧ t.pc.toNat = s.handler)

/-- A step takes the pending enabled interrupt of highest priority, external then software then timer, when
interrupts are globally enabled, with the pc of the instruction that did not run; it takes none when none is
pending and enabled, when machine mode runs with MIE clear, or under TRAP = halt (R592, R600, R601, R602). The
model's choices in it: the state in which a step begins, with the form of its inputs (log 19) and the pc of a hart
that idles past its `wfi` (log 17), and that the reserved values of `mtvec[1:0]` go to the base (log 25). -/
def Obligations.interrupts : Prop :=
  (∀ (s u : State) (i : Nat), u = s.begin → u.Pending i → (u.Pending 11 → i = 11) →
    (i = 7 → ¬u.Pending 3) → (u.priv = .machine → u.mie = true) →
    Ends (step s) fun t => u.Trapped t (2 ^ (u.cfg.xlen.bits - 1) + i) 0
      (if u.mtvec.toNat % 4 = 1 then u.handler + 4 * i else u.handler)) ∧
  ∀ s : State, ((¬∃ i, s.Pending i) ∨ (s.priv = .machine ∧ s.mie = false) ∨ s.cfg.trap = .halt) →
    s.irqToTake = none

/-! ### Control and status registers (10_state.md, 42_system.md) -/

/-- A CSR instruction that passes the checks reads the CSR and writes the new value in one action; `rs1` = `x0` or
a zero immediate writes nothing, but for `csrrw` and `csrrwi` (R240 to R246). -/
def Obligations.csr_instructions : Prop :=
  ∀ (s : State) (rd rs1 : Reg) (a : BitVec 12) (z : BitVec 5) (c : Csr),
    let old := s.readCsr c
    (s.CsrOk a True c → s.EndsCsr (exec (.csrrw rd a rs1) s) rd c (s.writeCsr c (s.readX rs1)) ∧
      s.EndsCsr (exec (.csrrwi rd a z) s) rd c (s.writeCsr c (BitVec.ofNat 64 z.toNat))) ∧
    (s.CsrOk a (rs1 ≠ 0#5) c →
      s.EndsCsr (exec (.csrrs rd a rs1) s) rd c
        (if rs1 = 0#5 then s else s.writeCsr c (old ||| s.readX rs1)) ∧
      s.EndsCsr (exec (.csrrc rd a rs1) s) rd c
        (if rs1 = 0#5 then s else s.writeCsr c (old &&& ~~~s.readX rs1))) ∧
    (s.CsrOk a (z ≠ 0#5) c →
      s.EndsCsr (exec (.csrrsi rd a z) s) rd c
        (if z = 0#5 then s else s.writeCsr c (old ||| BitVec.ofNat 64 z.toNat)) ∧
      s.EndsCsr (exec (.csrrci rd a z) s) rd c
        (if z = 0#5 then s else s.writeCsr c (old &&& ~~~BitVec.ofNat 64 z.toNat)))

/-- The CSR pseudoinstructions on any CSR, those on the counters, in every mode, and those on `fcsr` and its two
windows, where F is implemented (R526 to R532, R539 to R544, R555 to R560, 48_pseudo.md; R45, 10_state.md; log
23). -/
def Obligations.csr_pseudos : Prop :=
  ∀ (s : State) (rd rs1 : Reg) (a : BitVec 12) (z : BitVec 5) (c : Csr),
    let old := s.readCsr c
    let reads : Csr → Instr → Prop := fun c i => s.EndsCsr (exec i s) rd c s
    let swaps : Csr → Instr → Prop := fun c i => s.EndsCsr (exec i s) rd c (s.writeCsr c (s.readX rs1))
    (s.CsrOk a False c → s.EndsCsr (exec (.csrr rd a) s) rd c s) ∧
    (s.CsrOk a True c → s.EndsCsr (exec (.csrw a rs1) s) 0 c (s.writeCsr c (s.readX rs1)) ∧
      s.EndsCsr (exec (.csrwi a z) s) 0 c (s.writeCsr c (BitVec.ofNat 64 z.toNat))) ∧
    (s.CsrOk a (rs1 ≠ 0#5) c →
      s.EndsCsr (exec (.csrs a rs1) s) 0 c
        (if rs1 = 0#5 then s else s.writeCsr c (old ||| s.readX rs1)) ∧
      s.EndsCsr (exec (.csrc a rs1) s) 0 c
        (if rs1 = 0#5 then s else s.writeCsr c (old &&& ~~~s.readX rs1))) ∧
    (s.CsrOk a (z ≠ 0#5) c →
      s.EndsCsr (exec (.csrsi a z) s) 0 c
        (if z = 0#5 then s else s.writeCsr c (old ||| BitVec.ofNat 64 z.toNat)) ∧
      s.EndsCsr (exec (.csrci a z) s) 0 c
        (if z = 0#5 then s else s.writeCsr c (old &&& ~~~BitVec.ofNat 64 z.toNat))) ∧
    reads (.counter .cycle) (.rdcycle rd) ∧ reads (.counter .time) (.rdtime rd) ∧
    reads (.counter .instret) (.rdinstret rd) ∧
    (s.cfg.xlen = .rv32 → reads (.counterHigh .cycle) (.rdcycleh rd) ∧
      reads (.counterHigh .time) (.rdtimeh rd) ∧ reads (.counterHigh .instret) (.rdinstreth rd)) ∧
    (s.cfg.fp ≠ .none → reads .fcsr (.frcsr rd) ∧ reads .fflags (.frflags rd) ∧ reads .frm (.frrm rd) ∧
      swaps .fcsr (.fscsr rd rs1) ∧ swaps .fflags (.fsflags rd rs1) ∧ swaps .frm (.fsrm rd rs1))

/-- The table of the CSRs, with the parameters under which each exists, and no other address names one; and a CSR
instruction is illegal when its address names no CSR of this machine, when the mode is too low for the address, or
when it writes a read-only address; it then writes neither the CSR nor `x[rd]` (R45, R54, 10_state.md; R240). -/
def Obligations.csr_access_illegal : Prop :=
  (∀ (cfg : Config) (a : BitVec 12) (c : Csr), csrAt cfg a = some c ↔
    (a, c) ∈ [(0xC00, .counter .cycle), (0xC01, .counter .time), (0xC02, .counter .instret), (0x300, .mstatus),
      (0x341, .mepc)] ∨
    cfg.fp ≠ .none ∧ (a, c) ∈ [(0x001, .fflags), (0x002, .frm), (0x003, .fcsr)] ∨
    cfg.xlen = .rv32 ∧ (a, c) ∈ [(0xC80, .counterHigh .cycle), (0xC81, .counterHigh .time),
      (0xC82, .counterHigh .instret)] ∨
    cfg.modes = .msu ∧ (a, c) ∈ [(0x100, .sstatus), (0x141, .sepc)] ∨
    cfg.trap = .machine ∧ (a, c) ∈ [(0x305, .mtvec), (0x342, .mcause), (0x343, .mtval), (0x340, .mscratch),
      (0x304, .mie), (0x344, .mip)]) ∧
  ∀ (s : State) (rd rs1 : Reg) (a : BitVec 12) (z : BitVec 5),
    let illegal : Prop → Instr → Prop := fun writes i =>
      (csrAt s.cfg a = none ∨ (privCode s.priv).toNat < a.toNat / 256 % 4 ∨ writes ∧ a.toNat / 1024 = 3) →
        s.EndsTrap (exec i s) (.illegal (i.word s.cfg.xlen)) 2 (i.word s.cfg.xlen).toNat
    illegal True (.csrrw rd a rs1) ∧ illegal True (.csrrwi rd a z) ∧
    illegal (rs1 ≠ 0#5) (.csrrs rd a rs1) ∧ illegal (rs1 ≠ 0#5) (.csrrc rd a rs1) ∧
    illegal (z ≠ 0#5) (.csrrsi rd a z) ∧ illegal (z ≠ 0#5) (.csrrci rd a z)

/-- `fcsr` reads its eight bits and zero above them; `fflags` and `frm` are windows on bits 4:0 and 7:5: reading one
returns its window, writing one replaces its window and changes nothing else; and the bits of the flags (R46). -/
def Obligations.fcsr_windows : Prop :=
  (flagNV.toNat = 2 ^ 4 ∧ flagDZ.toNat = 2 ^ 3 ∧ flagOF.toNat = 2 ^ 2 ∧ flagUF.toNat = 2 ^ 1 ∧
    flagNX.toNat = 2 ^ 0) ∧
  ∀ (s : State) (v : Word),
    (s.readCsr .fcsr).toNat = s.fcsr.toNat ∧ (s.readCsr .fflags).toNat = s.fcsr.toNat % 32 ∧
    (s.readCsr .frm).toNat = s.fcsr.toNat / 32 ∧
    (∃ w, s.writeCsr .fcsr v = { s with fcsr := w } ∧ w.toNat = v.toNat % 256) ∧
    (∃ w, s.writeCsr .fflags v = { s with fcsr := w } ∧
      w.toNat = s.fcsr.toNat / 32 * 32 + v.toNat % 32) ∧
    ∃ w, s.writeCsr .frm v = { s with fcsr := w } ∧ w.toNat = v.toNat % 8 * 32 + s.fcsr.toNat % 32

/-- What the machine-level registers read after a write: `mtvec`, `mcause`, `mtval` and `mscratch` the value at XLEN
bits (log 26), `mepc` and `sepc` with the low bits cleared, `mie` its three bits; a write to `mip` or to a counter
is ignored; and no write reaches another of them (R47, R50, R54, 10_state.md; R601, 60_exceptions.md). -/
def Obligations.csr_write_then_read : Prop :=
  ∀ (s : State) (v : Word) (c : Csr),
    ((s.writeCsr .mtvec v).readCsr .mtvec).toNat = s.wrap v.toNat ∧
    ((s.writeCsr .mcause v).readCsr .mcause).toNat = s.wrap v.toNat ∧
    ((s.writeCsr .mtval v).readCsr .mtval).toNat = s.wrap v.toNat ∧
    ((s.writeCsr .mscratch v).readCsr .mscratch).toNat = s.wrap v.toNat ∧
    ((s.writeCsr .mepc v).readCsr .mepc).toNat = s.evenPc v ∧
    ((s.writeCsr .sepc v).readCsr .sepc).toNat = s.evenPc v ∧
    ((s.writeCsr .mie v).readCsr .mie) = v &&& 0x888 ∧
    s.writeCsr .mip v = s ∧ (∀ k, s.writeCsr (.counter k) v = s ∧ s.writeCsr (.counterHigh k) v = s) ∧
    ∀ d, c ∈ [Csr.mtvec, .mcause, .mtval, .mscratch, .mepc, .sepc, .mie, .mip] → d ≠ c →
      (s.writeCsr d v).readCsr c = s.readCsr c

/-- The named bits of `mstatus` read as written, MPP when its code is that of an implemented mode and some
implemented mode otherwise, and `sstatus` shows and writes its three bits at the same places (R48, R49). The other
bits are free (log 13). -/
def Obligations.status_fields : Prop :=
  ∀ (s : State) (v : Word),
    let m := (s.writeCsr .mstatus v).readCsr .mstatus
    let w := s.writeCsr .sstatus v
    (∀ k ∈ [1, 3, 5, 7, 8], m.getLsbD k = v.getLsbD k) ∧
    (∀ p : Priv, s.cfg.modes.has p = true → v.extractLsb' 11 2 = privCode p →
      m.extractLsb' 11 2 = privCode p) ∧
    (∃ p : Priv, s.cfg.modes.has p = true ∧ m.extractLsb' 11 2 = privCode p) ∧
    (∀ k ∈ [1, 5, 8], (w.readCsr .mstatus).getLsbD k = v.getLsbD k ∧
      (w.readCsr .sstatus).getLsbD k = v.getLsbD k) ∧
    (∀ k ∈ [3, 7, 11, 12], (w.readCsr .mstatus).getLsbD k = (s.readCsr .mstatus).getLsbD k)

/-! ### Floating point (45_rvf.md, 46_rvd.md) -/

/-- The instructions that round, in both formats, with the mode of the `rm` field or of `frm`: the result of the
arithmetic function to `f[rd]`, boxed when it is single precision, its flags accrued, nothing else changed (R342 to
R344, R351 to R359; R400, R405 to R413, R431, R432, 46_rvd.md). -/
def Obligations.float_arithmetic : Prop :=
  ∀ (s : State) (rd a b c : Reg) (rm : Rounding) (mode : RoundMode), s.roundMode rm = some mode →
    let sa := s.unboxed a
    let sb := s.unboxed b
    let sc := s.unboxed c
    let da := (s.readF a).toNat
    let db := (s.readF b).toNat
    let dc := (s.readF c).toNat
    let single : (Nat × BitVec 5) → Instr → Prop := fun r i => s.EndsS (exec i s) 4 rd r
    let double : (Nat × BitVec 5) → Instr → Prop := fun r i => s.cfg.fp = .fd →
      s.EndsF (exec i s) 4 rd (BitVec.ofNat 64 r.1) r.2
    single (fpAdd .single mode sa sb) (.fadd_s rd a b rm) ∧
    single (fpSub .single mode sa sb) (.fsub_s rd a b rm) ∧
    single (fpMul .single mode sa sb) (.fmul_s rd a b rm) ∧
    single (fpDiv .single mode sa sb) (.fdiv_s rd a b rm) ∧
    single (fpSqrt .single mode sa) (.fsqrt_s rd a rm) ∧
    single (fpMadd .single mode sa sb sc) (.fmadd_s rd a b c rm) ∧
    single (fpMsub .single mode sa sb sc) (.fmsub_s rd a b c rm) ∧
    single (fpNmadd .single mode sa sb sc) (.fnmadd_s rd a b c rm) ∧
    single (fpNmsub .single mode sa sb sc) (.fnmsub_s rd a b c rm) ∧
    single (fpConvert .double .single mode da) (.fcvt_s_d rd a rm) ∧
    double (fpConvert .single .double mode sa) (.fcvt_d_s rd a rm) ∧
    double (fpAdd .double mode da db) (.fadd_d rd a b rm) ∧
    double (fpSub .double mode da db) (.fsub_d rd a b rm) ∧
    double (fpMul .double mode da db) (.fmul_d rd a b rm) ∧
    double (fpDiv .double mode da db) (.fdiv_d rd a b rm) ∧
    double (fpSqrt .double mode da) (.fsqrt_d rd a rm) ∧
    double (fpMadd .double mode da db dc) (.fmadd_d rd a b c rm) ∧
    double (fpMsub .double mode da db dc) (.fmsub_d rd a b c rm) ∧
    double (fpNmadd .double mode da db dc) (.fnmadd_d rd a b c rm) ∧
    double (fpNmsub .double mode da db dc) (.fnmsub_d rd a b c rm)

/-- The instructions that do not round: minimum and maximum, sign injection with its pseudoinstructions, the
comparisons, the class masks and the moves between the register files, which copy bits (R342, R348 to R350, R360 to
R368, R377, R378; R414 to R422, R433, R434, 46_rvd.md; R533 to R538, 48_pseudo.md; log 23). -/
def Obligations.float_without_rounding : Prop :=
  ∀ (s : State) (rd a b : Reg),
    let sa := s.unboxed a
    let sb := s.unboxed b
    let da := (s.readF a).toNat
    let db := (s.readF b).toNat
    let single : (Nat × BitVec 5) → Instr → Prop := fun r i => s.EndsS (exec i s) 4 rd r
    let double : (Nat × BitVec 5) → Instr → Prop := fun r i => s.cfg.fp = .fd →
      s.EndsF (exec i s) 4 rd (BitVec.ofNat 64 r.1) r.2
    let signed : Nat → Nat → Nat → Nat × BitVec 5 := fun w v n =>
      (v % 2 ^ w + n % 2 * 2 ^ w, 0)
    let truth : (Bool × BitVec 5) → Instr → Prop := fun r i =>
      s.EndsI (exec i s) rd (if r.1 then 1 else 0) r.2
    single (fpMin .single sa sb) (.fmin_s rd a b) ∧ single (fpMax .single sa sb) (.fmax_s rd a b) ∧
    double (fpMin .double da db) (.fmin_d rd a b) ∧ double (fpMax .double da db) (.fmax_d rd a b) ∧
    single (signed 31 sa (sb / 2 ^ 31)) (.fsgnj_s rd a b) ∧
    single (signed 31 sa (sb / 2 ^ 31 + 1)) (.fsgnjn_s rd a b) ∧
    single (signed 31 sa (sa / 2 ^ 31 + sb / 2 ^ 31)) (.fsgnjx_s rd a b) ∧
    double (signed 63 da (db / 2 ^ 63)) (.fsgnj_d rd a b) ∧
    double (signed 63 da (db / 2 ^ 63 + 1)) (.fsgnjn_d rd a b) ∧
    double (signed 63 da (da / 2 ^ 63 + db / 2 ^ 63)) (.fsgnjx_d rd a b) ∧
    single (sa, 0) (.fmv_s rd a) ∧ single (sa % 2 ^ 31, 0) (.fabs_s rd a) ∧
    single (signed 31 sa (sa / 2 ^ 31 + 1)) (.fneg_s rd a) ∧
    double (da, 0) (.fmv_d rd a) ∧ double (da % 2 ^ 63, 0) (.fabs_d rd a) ∧
    double (signed 63 da (da / 2 ^ 63 + 1)) (.fneg_d rd a) ∧
    truth (fpEq .single sa sb) (.feq_s rd a b) ∧ truth (fpLt .single sa sb) (.flt_s rd a b) ∧
    truth (fpLe .single sa sb) (.fle_s rd a b) ∧ truth (fpEq .double da db) (.feq_d rd a b) ∧
    truth (fpLt .double da db) (.flt_d rd a b) ∧ truth (fpLe .double da db) (.fle_d rd a b) ∧
    s.EndsI (exec (.fclass_s rd a) s) rd (fpClassify .single sa).toNat 0 ∧
    s.EndsI (exec (.fclass_d rd a) s) rd (fpClassify .double da).toNat 0 ∧
    s.EndsI (exec (.fmv_x_w rd a) s) rd (word32 da) 0 ∧
    s.EndsI (exec (.fmv_x_d rd a) s) rd da 0 ∧
    single (s.ux a, 0) (.fmv_w_x rd a) ∧ double (s.ux a, 0) (.fmv_d_x rd a)

/-- Conversions between numbers and integers: the saturated integer, a 32-bit one sign-extended even when it is
unsigned, and the rounded number of a signed or unsigned integer (R346, R347, R369 to R376; R423 to R430,
46_rvd.md). -/
def Obligations.float_int_conversions : Prop :=
  ∀ (s : State) (rd a : Reg) (rm : Rounding) (mode : RoundMode), s.roundMode rm = some mode →
    let sa := s.unboxed a
    let da := (s.readF a).toNat
    let single : Int → Instr → Prop := fun n i => s.EndsS (exec i s) 4 rd (fpOfInt .single mode n)
    let double : Int → Instr → Prop := fun n i => s.cfg.fp = .fd →
      s.EndsF (exec i s) 4 rd (BitVec.ofNat 64 (fpOfInt .double mode n).1) (fpOfInt .double mode n).2
    let int : (Int × BitVec 5) → Instr → Prop := fun r i => s.EndsI (exec i s) rd r.1 r.2
    let word : (Int × BitVec 5) → Instr → Prop := fun r i => s.EndsI (exec i s) rd (word32 r.1) r.2
    int (fpToInt .single mode (-2 ^ 31) (2 ^ 31 - 1) sa) (.fcvt_w_s rd a rm) ∧
    word (fpToInt .single mode 0 (2 ^ 32 - 1) sa) (.fcvt_wu_s rd a rm) ∧
    int (fpToInt .single mode (-2 ^ 63) (2 ^ 63 - 1) sa) (.fcvt_l_s rd a rm) ∧
    int (fpToInt .single mode 0 (2 ^ 64 - 1) sa) (.fcvt_lu_s rd a rm) ∧
    int (fpToInt .double mode (-2 ^ 31) (2 ^ 31 - 1) da) (.fcvt_w_d rd a rm) ∧
    word (fpToInt .double mode 0 (2 ^ 32 - 1) da) (.fcvt_wu_d rd a rm) ∧
    int (fpToInt .double mode (-2 ^ 63) (2 ^ 63 - 1) da) (.fcvt_l_d rd a rm) ∧
    int (fpToInt .double mode 0 (2 ^ 64 - 1) da) (.fcvt_lu_d rd a rm) ∧
    single (s.sx32 a) (.fcvt_s_w rd a rm) ∧ single (s.ux32 a) (.fcvt_s_wu rd a rm) ∧
    double (s.sx32 a) (.fcvt_d_w rd a rm) ∧ double (s.ux32 a) (.fcvt_d_wu rd a rm) ∧
    (s.cfg.xlen = .rv64 → single (s.sx a) (.fcvt_s_l rd a rm) ∧ double (s.sx a) (.fcvt_d_l rd a rm)) ∧
    single (s.ux a) (.fcvt_s_lu rd a rm) ∧ double (s.ux a) (.fcvt_d_lu rd a rm)

/-- The rounding mode of an instruction: the static one of its `rm` field, or that of `frm`, of which 101, 110 and
111 make every instruction with an `rm` field illegal, also one whose result needs no rounding (R343). -/
def Obligations.reserved_rounding_illegal : Prop :=
  ∀ (s : State) (rd a b c : Reg),
    s.roundMode .rne = some .rne ∧ s.roundMode .rtz = some .rtz ∧ s.roundMode .rdn = some .rdn ∧
    s.roundMode .rup = some .rup ∧ s.roundMode .rmm = some .rmm ∧
    s.roundMode .dyn = [RoundMode.rne, .rtz, .rdn, .rup, .rmm][s.fcsr.toNat / 32]? ∧
    (5 ≤ s.fcsr.toNat / 32 → ∀ i ∈ [Instr.fadd_s rd a b .dyn, .fsub_s rd a b .dyn, .fmul_s rd a b .dyn,
        .fdiv_s rd a b .dyn, .fsqrt_s rd a .dyn, .fmadd_s rd a b c .dyn, .fmsub_s rd a b c .dyn,
        .fnmadd_s rd a b c .dyn, .fnmsub_s rd a b c .dyn, .fcvt_w_s rd a .dyn, .fcvt_wu_s rd a .dyn,
        .fcvt_l_s rd a .dyn, .fcvt_lu_s rd a .dyn, .fcvt_s_w rd a .dyn, .fcvt_s_wu rd a .dyn,
        .fcvt_s_l rd a .dyn, .fcvt_s_lu rd a .dyn, .fadd_d rd a b .dyn, .fsub_d rd a b .dyn,
        .fmul_d rd a b .dyn, .fdiv_d rd a b .dyn, .fsqrt_d rd a .dyn, .fmadd_d rd a b c .dyn,
        .fmsub_d rd a b c .dyn, .fnmadd_d rd a b c .dyn, .fnmsub_d rd a b c .dyn, .fcvt_w_d rd a .dyn,
        .fcvt_wu_d rd a .dyn, .fcvt_l_d rd a .dyn, .fcvt_lu_d rd a .dyn, .fcvt_d_w rd a .dyn,
        .fcvt_d_wu rd a .dyn, .fcvt_d_l rd a .dyn, .fcvt_d_lu rd a .dyn, .fcvt_s_d rd a .dyn,
        .fcvt_d_s rd a .dyn],
      s.EndsTrap (exec i s) (.illegal (i.word s.cfg.xlen)) 2 (i.word s.cfg.xlen).toNat)

/-- The floating-point flags are sticky and the dynamic rounding mode is stable: only a CSR instruction clears a flag
or changes `frm` (R39, 10_state.md; R344). -/
def Obligations.flags_are_sticky : Prop :=
  ∀ (i : Instr) (s t : State), ¬isCsrInstr i → exec i s = .next t →
    t.fflags ||| s.fflags = t.fflags ∧ t.frm = s.frm

/-- Rounding is what R344 says, in both formats and all five modes: the result is the neighbour the mode chooses among
the numbers of the format without an upper bound; NX is set exactly when it differs, and UF beside it exactly when the
exact result is tiny after rounding; above the largest finite number the result is that of an overflow, an infinity
or the largest number by mode and sign, with OF and NX. -/
def Obligations.rounding_is_correct : Prop :=
  ∀ m ∈ [Fmt.single, Fmt.double], ∀ (mode : RoundMode) (neg : Bool) (k : Nat) (q : Int), 0 < k →
    Rounded m mode neg (rational neg k q) (fpRound m mode neg k q)

/-- A quotient of finite numbers that are not zero is the exact quotient rounded once, and a square root of a positive
number is the exact root rounded once, which never overflows or underflows (R344, R354, R355). -/
def Obligations.quotients_and_roots_are_rounded : Prop :=
  ∀ m ∈ [Fmt.single, Fmt.double], ∀ (mode : RoundMode) (a b : Nat) (x y : ℚ),
    fpReal m a = some x → fpReal m b = some y →
    (x ≠ 0 → y ≠ 0 → Rounded m mode (fpNeg m a != fpNeg m b) (x / y) (fpDiv m mode a b)) ∧
    (0 < x → ∃ z, fpReal m (fpSqrt m mode a).1 = some z ∧ RootRoundsTo m mode x z ∧
      (fpSqrt m mode a).2 = if z * z = x then 0 else flagNX)

/-- On finite operands the sums, products and fused products are the exact rational result rounded once, and so are an
integer converted to the format and a number converted to either format, which from single to double precision is
exact. An exact zero has the sign R344 d gives it: of a sum, a difference and each fused operation that of both terms
when they agree, and else + but for RDN; of a product or quotient the XOR of the signs; of a square root or a
conversion that of the operand (R344, R346, R351 to R359; R403, 46_rvd.md). -/
def Obligations.arithmetic_is_exact_then_rounded : Prop :=
  ∀ m ∈ [Fmt.single, Fmt.double], ∀ (mode : RoundMode) (a b c : Nat) (x y z : ℚ) (n : Int),
    fpReal m a = some x → fpReal m b = some y → fpReal m c = some z →
    let rounds : Fmt → ℚ → Nat × BitVec 5 → Prop := fun d r out => r ≠ 0 →
      ∃ neg k q, 0 < k ∧ r = rational neg k q ∧ out = fpRound d mode neg k q
    let na := fpNeg m a
    let nb := fpNeg m b
    let nc := fpNeg m c
    let zeroSum : Bool → Bool → Nat × BitVec 5 := fun n1 n2 =>
      (m.zeroBits (if n1 = n2 then n1 else decide (mode = .rdn)), 0)
    (rounds m (x + y) (fpAdd m mode a b) ∧ rounds m (x - y) (fpSub m mode a b) ∧
      rounds m (x * y) (fpMul m mode a b) ∧ rounds m n (fpOfInt m mode n) ∧ fpOfInt m mode 0 = (0, 0)) ∧
    (x + y = 0 → fpAdd m mode a b = zeroSum na nb) ∧ (x - y = 0 → fpSub m mode a b = zeroSum na !nb) ∧
    (x * y = 0 → fpMul m mode a b = (m.zeroBits (na != nb), 0)) ∧
    (x = 0 → y ≠ 0 → fpDiv m mode a b = (m.zeroBits (na != nb), 0)) ∧
    (x = 0 → fpSqrt m mode a = (m.zeroBits na, 0)) ∧
    (∀ o ∈ fusedOps,
      let sum := negatedIf o.2.1 (x * y) + negatedIf o.2.2 z
      rounds m sum (o.1 m mode a b c) ∧
        (sum = 0 → o.1 m mode a b c = zeroSum ((na != nb) != o.2.1) (nc != o.2.2))) ∧
    (∀ d ∈ [Fmt.single, Fmt.double], rounds d x (fpConvert m d mode a) ∧
      (x = 0 → fpConvert m d mode a = (d.zeroBits na, 0))) ∧
    (m = .single → fpReal .double (fpConvert m .double mode a).1 = some x ∧
      fpNeg .double (fpConvert m .double mode a).1 = na ∧ (fpConvert m .double mode a).2 = 0)

/-- A NaN operand gives the canonical NaN, with NV exactly when some operand is signaling, or when a fused operation
multiplies zero by infinity; minimum and maximum return the other operand, and a comparison is false. An invalid
operation gives the canonical NaN with NV, a number divided by zero the infinity with DZ, and an infinite operand
that is not invalid what the arithmetic of infinities dictates, with no flag. The patterns are written out in the
definitions `nanBits`, `infBits` and `zeroBits` (R341, R344 d and e, R345, R348, R350, R352 to R359; R403,
46_rvd.md). -/
def Obligations.nan_rules : Prop :=
  ∀ m ∈ [Fmt.single, Fmt.double], ∀ (mode : RoundMode) (a b c : Nat),
    let nan := fpIsNan m
    let nv : Bool → BitVec 5 := fun s => if s then flagNV else 0
    let sig2 := fpIsSignaling m a || fpIsSignaling m b
    let inf : Nat → Prop := fun v => fpUnpack m v ∈ [.inf false, .inf true]
    let zeroInf := (fpReal m a = some 0 ∧ inf b) ∨ (fpReal m b = some 0 ∧ inf a)
    let invalid : Nat × BitVec 5 := (m.nanBits, flagNV)
    (∀ n, fpUnpack m a = .inf n → (fpUnpack m b = .inf (!n) → fpAdd m mode a b = invalid) ∧
      (fpUnpack m b = .inf n → fpSub m mode a b = invalid)) ∧
    (zeroInf → fpMul m mode a b = invalid) ∧
    ((fpReal m a = some 0 ∧ fpReal m b = some 0) ∨ (inf a ∧ inf b) → fpDiv m mode a b = invalid) ∧
    (∀ x, fpReal m a = some x → x ≠ 0 → fpReal m b = some 0 →
      fpDiv m mode a b = (m.infBits (fpNeg m a != fpNeg m b), flagDZ)) ∧
    (fpNeg m a = true → nan a = false → fpReal m a ≠ some 0 → fpSqrt m mode a = invalid) ∧
    (nan a = true → ∀ d ∈ [Fmt.single, Fmt.double],
      fpSqrt m mode a = (m.nanBits, nv (fpIsSignaling m a)) ∧
      fpConvert m d mode a = (d.nanBits, nv (fpIsSignaling m a))) ∧
    ((nan a || nan b) = true → fpAdd m mode a b = (m.nanBits, nv sig2) ∧
      fpSub m mode a b = (m.nanBits, nv sig2) ∧ fpMul m mode a b = (m.nanBits, nv sig2) ∧
      fpDiv m mode a b = (m.nanBits, nv sig2) ∧
      fpEq m a b = (false, nv sig2) ∧ fpLt m a b = (false, flagNV) ∧ fpLe m a b = (false, flagNV) ∧
      (∀ op ∈ [fpMin, fpMax],
        op m a b = (if nan a && nan b then m.nanBits else if nan a then b else a, nv sig2))) ∧
    ((nan a || nan b || nan c) = true →
      ∀ op ∈ [fpMadd, fpMsub, fpNmadd, fpNmsub], ∃ fl, op m mode a b c = (m.nanBits, fl) ∧
        (fl = flagNV ∨ fl = 0) ∧ (fl = flagNV ↔ (sig2 || fpIsSignaling m c) = true ∨ zeroInf)) ∧
    (∀ n, fpUnpack m a = .inf n →
      (nan b = false → fpUnpack m b ≠ .inf (!n) →
        fpAdd m mode a b = (m.infBits n, 0) ∧ fpAdd m mode b a = (m.infBits n, 0)) ∧
      (nan b = false → fpUnpack m b ≠ .inf n →
        fpSub m mode a b = (m.infBits n, 0) ∧ fpSub m mode b a = (m.infBits !n, 0)) ∧
      (nan b = false → fpReal m b ≠ some 0 → fpMul m mode a b = (m.infBits (n != fpNeg m b), 0) ∧
        fpMul m mode b a = (m.infBits (n != fpNeg m b), 0)) ∧
      ((fpReal m b).isSome = true → fpDiv m mode a b = (m.infBits (n != fpNeg m b), 0) ∧
        fpDiv m mode b a = (m.zeroBits (n != fpNeg m b), 0)) ∧
      (n = false → fpSqrt m mode a = (m.infBits false, 0)) ∧
      ∀ d ∈ [Fmt.single, Fmt.double], fpConvert m d mode a = (d.infBits n, 0)) ∧
    ∀ o ∈ fusedOps,
      let product := (fpNeg m a != fpNeg m b) != o.2.1
      let addend := fpNeg m c != o.2.2
      (zeroInf → o.1 m mode a b c = invalid) ∧
      ((nan a || nan b || nan c) = false → ¬zeroInf → inf a ∨ inf b →
        (inf c ∧ addend ≠ product → o.1 m mode a b c = invalid) ∧
        (¬(inf c ∧ addend ≠ product) → o.1 m mode a b c = (m.infBits product, 0))) ∧
      ((fpReal m a).isSome = true → (fpReal m b).isSome = true → inf c →
        o.1 m mode a b c = (m.infBits addend, 0))

/-- A number converts to the integer the mode rounds it to, saturated with NV outside the range of the target and with
NX when it is not exact; an infinity and a NaN saturate with NV (R347). -/
def Obligations.to_integer_values : Prop :=
  ∀ m ∈ [Fmt.single, Fmt.double], ∀ (mode : RoundMode) (lo hi : Int) (v : Nat), lo ≤ hi →
    (∀ r : ℚ, fpReal m v = some r → ∃ n : Int, IntRoundsTo mode r n ∧
      fpToInt m mode lo hi v = if hi < n then (hi, flagNV) else if n < lo then (lo, flagNV)
        else (n, if (n : ℚ) = r then 0 else flagNX)) ∧
    (fpIsNan m v = true → fpToInt m mode lo hi v = (hi, flagNV)) ∧
    (∀ neg, fpUnpack m v = .inf neg → fpToInt m mode lo hi v = (if neg then lo else hi, flagNV))

/-- The number, infinity or NaN that each pattern stands for; the comparisons, minimum and maximum follow the
numerical order of the values that are no NaN, the infinities at the ends, with both zeros equal for a comparison and
-0 below +0 for a minimum; and the class mask has exactly one bit set, that of the sign, exponent and fraction (R341,
R348, R349, R350). -/
def Obligations.compare_and_classify_values : Prop :=
  ∀ m ∈ [Fmt.single, Fmt.double], ∀ a b : Nat,
    let w : Nat := if m = .single then 8 else 11
    let t : Nat := if m = .single then 23 else 52
    let bias : Int := if m = .single then 127 else 1023
    let e := a / 2 ^ t % 2 ^ w
    let f := a % 2 ^ t
    let top := 2 ^ w - 1
    let neg : Bool := decide (a / 2 ^ (w + t) % 2 = 1)
    let number : Nat → Int → ℚ := fun k q => (if neg then -1 else 1) * (k : ℚ) * (2 : ℚ) ^ q
    let below := fpEq m a b = (false, 0) ∧ fpEq m b a = (false, 0) ∧ fpLt m a b = (true, 0) ∧
      fpLt m b a = (false, 0) ∧ fpLe m a b = (true, 0) ∧ fpLe m b a = (false, 0) ∧
      fpMin m a b = (a, 0) ∧ fpMin m b a = (a, 0) ∧ fpMax m a b = (b, 0) ∧ fpMax m b a = (b, 0)
    (fpNeg m a = neg ∧
      (e = top → fpReal m a = none ∧
        fpUnpack m a = if f = 0 then .inf neg else .nan (decide (f < 2 ^ (t - 1)))) ∧
      (e = 0 → fpReal m a = some (number f (1 - bias - t))) ∧
      (0 < e → e < top → fpReal m a = some (number (2 ^ t + f) (e - bias - t))) ∧
      (fpIsNan m a = true ↔ e = top ∧ f ≠ 0) ∧
      (fpIsSignaling m a = true ↔ e = top ∧ f ≠ 0 ∧ f < 2 ^ (t - 1))) ∧
    (∀ x y : ℚ, fpReal m a = some x → fpReal m b = some y → (x < y → below) ∧
      (x = y → fpEq m a b = (true, 0) ∧ fpLt m a b = (false, 0) ∧ fpLe m a b = (true, 0) ∧
        fpMin m a b = (if fpNeg m a then a else b, 0) ∧ fpMax m a b = (if fpNeg m a then b else a, 0))) ∧
    (fpIsNan m a = false → fpIsNan m b = false →
      (fpUnpack m a = .inf true ∧ fpUnpack m b ≠ .inf true) ∨
        (fpUnpack m b = .inf false ∧ fpUnpack m a ≠ .inf false) → below) ∧
    (∀ n, fpUnpack m a = .inf n → fpUnpack m b = .inf n →
      fpEq m a b = (true, 0) ∧ fpLt m a b = (false, 0) ∧ fpLe m a b = (true, 0) ∧
        ∀ op ∈ [fpMin, fpMax], op m a b = (a, 0) ∨ op m a b = (b, 0)) ∧
    ∀ k < 10, ((fpClassify m a).getLsbD k = true ↔ k =
      if e = top then (if f = 0 then (if neg then 0 else 7) else if f < 2 ^ (t - 1) then 8 else 9)
      else if e = 0 then
        (if f = 0 then (if neg then 3 else 4) else if neg then 2 else 5)
      else if neg then 1 else 6)
end

