-- ==== Sys2Proof/Laws/Decode.lean ====
section
/-! SUPPORT. The fields of a packed word are the fields it was packed from, and each immediate is what its pieces
join to. -/

namespace Sys2Proof

/-! ### The six fields of a 32-bit word and the five of a halfword -/

@[simp] theorem fieldF7_pack32 (f7 : BitVec 7) (rs2 rs1 : BitVec 5) (f3 : BitVec 3) (rd : BitVec 5)
    (op : BitVec 7) :
    fieldF7 (pack32 f7 rs2 rs1 f3 rd op) = f7 := by
  apply BitVec.eq_of_getLsbD_eq
  intro i hi
  simp only [fieldF7, pack32, BitVec.getLsbD_extractLsb', BitVec.getLsbD_append]
  simp [hi, Nat.sub_sub,
    show ¬(25 + i < 7) by omega,
    show ¬(25 + i - 7 < 5) by omega,
    show ¬(25 + i - 12 < 3) by omega,
    show ¬(25 + i - 15 < 5) by omega,
    show ¬(25 + i - 20 < 5) by omega]

@[simp] theorem fieldRs2_pack32 (f7 : BitVec 7) (rs2 rs1 : BitVec 5) (f3 : BitVec 3) (rd : BitVec 5)
    (op : BitVec 7) :
    fieldRs2 (pack32 f7 rs2 rs1 f3 rd op) = rs2 := by
  apply BitVec.eq_of_getLsbD_eq
  intro i hi
  simp only [fieldRs2, pack32, BitVec.getLsbD_extractLsb', BitVec.getLsbD_append]
  simp [hi, Nat.sub_sub,
    show ¬(20 + i < 7) by omega,
    show ¬(20 + i - 7 < 5) by omega,
    show ¬(20 + i - 12 < 3) by omega,
    show ¬(20 + i - 15 < 5) by omega]

@[simp] theorem fieldRs1_pack32 (f7 : BitVec 7) (rs2 rs1 : BitVec 5) (f3 : BitVec 3) (rd : BitVec 5)
    (op : BitVec 7) :
    fieldRs1 (pack32 f7 rs2 rs1 f3 rd op) = rs1 := by
  apply BitVec.eq_of_getLsbD_eq
  intro i hi
  simp only [fieldRs1, pack32, BitVec.getLsbD_extractLsb', BitVec.getLsbD_append]
  simp [hi, Nat.sub_sub,
    show ¬(15 + i < 7) by omega,
    show ¬(15 + i - 7 < 5) by omega,
    show ¬(15 + i - 12 < 3) by omega]

@[simp] theorem fieldF3_pack32 (f7 : BitVec 7) (rs2 rs1 : BitVec 5) (f3 : BitVec 3) (rd : BitVec 5)
    (op : BitVec 7) :
    fieldF3 (pack32 f7 rs2 rs1 f3 rd op) = f3 := by
  apply BitVec.eq_of_getLsbD_eq
  intro i hi
  simp only [fieldF3, pack32, BitVec.getLsbD_extractLsb', BitVec.getLsbD_append]
  simp [hi, Nat.sub_sub,
    show ¬(12 + i < 7) by omega,
    show ¬(12 + i - 7 < 5) by omega]

@[simp] theorem fieldRd_pack32 (f7 : BitVec 7) (rs2 rs1 : BitVec 5) (f3 : BitVec 3) (rd : BitVec 5)
    (op : BitVec 7) :
    fieldRd (pack32 f7 rs2 rs1 f3 rd op) = rd := by
  apply BitVec.eq_of_getLsbD_eq
  intro i hi
  simp only [fieldRd, pack32, BitVec.getLsbD_extractLsb', BitVec.getLsbD_append]
  simp [hi,
    show ¬(7 + i < 7) by omega]

@[simp] theorem fieldOp_pack32 (f7 : BitVec 7) (rs2 rs1 : BitVec 5) (f3 : BitVec 3) (rd : BitVec 5)
    (op : BitVec 7) :
    fieldOp (pack32 f7 rs2 rs1 f3 rd op) = op := by
  apply BitVec.eq_of_getLsbD_eq
  intro i hi
  simp only [fieldOp, pack32, BitVec.getLsbD_extractLsb', BitVec.getLsbD_append]
  simp [hi]

@[simp] theorem halfF3_pack16 (f3 : BitVec 3) (b12 : BitVec 1) (r1 r2 : BitVec 5) (op : BitVec 2) :
    halfF3 (pack16 f3 b12 r1 r2 op) = f3 := by
  apply BitVec.eq_of_getLsbD_eq
  intro i hi
  simp only [halfF3, pack16, BitVec.getLsbD_extractLsb', BitVec.getLsbD_append]
  simp [hi, Nat.sub_sub,
    show ¬(13 + i < 2) by omega,
    show ¬(13 + i - 2 < 5) by omega,
    show ¬(13 + i - 7 < 5) by omega,
    show ¬(13 + i - 12 < 1) by omega]

@[simp] theorem halfB12_pack16 (f3 : BitVec 3) (b12 : BitVec 1) (r1 r2 : BitVec 5) (op : BitVec 2) :
    halfB12 (pack16 f3 b12 r1 r2 op) = b12 := by
  apply BitVec.eq_of_getLsbD_eq
  intro i hi
  simp only [halfB12, pack16, BitVec.getLsbD_extractLsb', BitVec.getLsbD_append]
  simp [hi, Nat.sub_sub,
    show ¬(12 + i < 2) by omega,
    show ¬(12 + i - 2 < 5) by omega,
    show ¬(12 + i - 7 < 5) by omega]

@[simp] theorem halfR1_pack16 (f3 : BitVec 3) (b12 : BitVec 1) (r1 r2 : BitVec 5) (op : BitVec 2) :
    halfR1 (pack16 f3 b12 r1 r2 op) = r1 := by
  apply BitVec.eq_of_getLsbD_eq
  intro i hi
  simp only [halfR1, pack16, BitVec.getLsbD_extractLsb', BitVec.getLsbD_append]
  simp [hi, Nat.sub_sub,
    show ¬(7 + i < 2) by omega,
    show ¬(7 + i - 2 < 5) by omega]

@[simp] theorem halfR2_pack16 (f3 : BitVec 3) (b12 : BitVec 1) (r1 r2 : BitVec 5) (op : BitVec 2) :
    halfR2 (pack16 f3 b12 r1 r2 op) = r2 := by
  apply BitVec.eq_of_getLsbD_eq
  intro i hi
  simp only [halfR2, pack16, BitVec.getLsbD_extractLsb', BitVec.getLsbD_append]
  simp [hi,
    show ¬(2 + i < 2) by omega]

@[simp] theorem halfOp_pack16 (f3 : BitVec 3) (b12 : BitVec 1) (r1 r2 : BitVec 5) (op : BitVec 2) :
    halfOp (pack16 f3 b12 r1 r2 op) = op := by
  apply BitVec.eq_of_getLsbD_eq
  intro i hi
  simp only [halfOp, pack16, BitVec.getLsbD_extractLsb', BitVec.getLsbD_append]
  simp [hi]

/-! ### Immediates -/

@[simp] theorem ciwImm_ciwField (v : BitVec 8) : ciwImm (ciwField v) = v := by
  revert v; decide

@[simp] theorem clwImm_clwField (v : BitVec 5) : clwImm (clwField v) = v := by
  revert v; decide

@[simp] theorem cldImm_cldField (v : BitVec 5) : cldImm (cldField v) = v := by
  revert v; decide

@[simp] theorem cwspImm_cwspField (v : BitVec 6) : cwspImm (cwspField v) = v := by
  revert v; decide

@[simp] theorem cdspImm_cdspField (v : BitVec 6) : cdspImm (cdspField v) = v := by
  revert v; decide

@[simp] theorem c16Imm_c16Field (v : BitVec 6) : c16Imm (c16Field v) = v := by
  revert v; decide

@[simp] theorem cbOff_cbField (v : BitVec 8) : cbOff (cbField v) = v := by
  revert v; decide

@[simp] theorem cjOff_cjField (v : BitVec 11) : cjOff (cjField v) = v := by
  apply BitVec.eq_of_getLsbD_eq
  intro i hi
  simp only [cjOff, cjField, BitVec.getLsbD_extractLsb', BitVec.getLsbD_append]
  interval_cases i <;> simp

@[simp] theorem joinI_split (v : BitVec 12) : joinI (immHi v) (immLo v) = v := by
  apply BitVec.eq_of_getLsbD_eq
  intro i hi
  simp only [joinI, immHi, immLo, BitVec.getLsbD_extractLsb', BitVec.getLsbD_append]
  interval_cases i <;> simp

@[simp] theorem joinB_split (v : BitVec 12) : joinB (branchHi v) (branchLo v) = v := by
  apply BitVec.eq_of_getLsbD_eq
  intro i hi
  simp only [joinB, branchHi, branchLo, BitVec.getLsbD_extractLsb', BitVec.getLsbD_append]
  interval_cases i <;> simp

@[simp] theorem jumpOff_jumpField (v : BitVec 20) : jumpOff (jumpField v) = v := by
  apply BitVec.eq_of_getLsbD_eq
  intro i hi
  simp only [jumpOff, jumpField, BitVec.getLsbD_extractLsb', BitVec.getLsbD_append]
  interval_cases i <;> simp

@[simp] theorem roundingOf_bits (rm : Rounding) : roundingOf rm.bits = some rm := by
  cases rm <;> rfl

end Sys2Proof
end

