-- ==== Sys2Proof/Laws/Memory.lean ====
section
/-! SUPPORT. The laws of memory: what is read after a write, and that every operation keeps the canonical form.
The reading laws hold of every list of cells; the form is needed only for equal memories to be equal lists. -/

namespace Sys2Proof.Machine

open Sys2Proof

/-! ### Reading after writing -/

theorem Memory.find_insert_self (m : Memory) (a : Nat) (v : Byte) : (m.insert a v).find a = some v := by
  induction m with
  | nil => simp [Memory.insert, Memory.find]
  | cons c rest ih =>
    simp only [Memory.insert]
    split
    · simp [Memory.find]
    · split
      · simp [Memory.find]
      · have h : c.1 ≠ a := by omega
        simp [Memory.find, h, ih]

theorem Memory.find_insert_ne (m : Memory) (a b : Nat) (v : Byte) (h : b ≠ a) :
    (m.insert a v).find b = m.find b := by
  induction m with
  | nil => simp [Memory.insert, Memory.find, Ne.symm h]
  | cons c rest ih =>
    simp only [Memory.insert]
    split
    · simp [Memory.find, Ne.symm h]
    · split
      · have hc : c.1 ≠ b := by omega
        simp [Memory.find, Ne.symm h, hc]
      · simp [Memory.find, ih]

theorem Memory.find_erase_self (m : Memory) (a : Nat) : (m.erase a).find a = none := by
  induction m with
  | nil => rfl
  | cons c rest ih =>
    simp only [Memory.erase]
    split
    · exact ih
    · simp [Memory.find, *]

theorem Memory.find_erase_ne (m : Memory) (a b : Nat) (h : b ≠ a) : (m.erase a).find b = m.find b := by
  induction m with
  | nil => rfl
  | cons c rest ih =>
    simp only [Memory.erase]
    split
    · have hc : c.1 ≠ b := by omega
      simp [Memory.find, hc, ih]
    · simp [Memory.find, ih]

@[simp] theorem Memory.read_write_self (m : Memory) (a : Nat) (v : Byte) : (m.write a v).read a = v := by
  unfold Memory.write Memory.read
  split
  · next h => rw [Memory.find_erase_self, h]; rfl
  · rw [Memory.find_insert_self]; rfl

theorem Memory.read_write_ne (m : Memory) (a b : Nat) (v : Byte) (h : b ≠ a) :
    (m.write a v).read b = m.read b := by
  unfold Memory.write Memory.read
  split
  · rw [Memory.find_erase_ne _ _ _ h]
  · rw [Memory.find_insert_ne _ _ _ _ h]

/-- A byte that was clean records its old value, one that was dirty keeps the older one. -/
theorem Memory.find_markStale_self (m : Memory) (a : Nat) (old : Byte) :
    (m.markStale a old).find a = some ((m.find a).getD old) := by
  unfold Memory.markStale
  split
  · next h => rw [h]; rfl
  · next h => rw [Memory.find_insert_self, h]; rfl

theorem Memory.find_markStale_ne (m : Memory) (a b : Nat) (old : Byte) (h : b ≠ a) :
    (m.markStale a old).find b = m.find b := by
  unfold Memory.markStale
  split
  · rfl
  · exact Memory.find_insert_ne _ _ _ _ h

/-! ### The canonical form -/

/-- The head of a sorted list is below every entry of its tail. -/
theorem Memory.sorted_cons (c : Host.Cell) (m : Memory) :
    Memory.sorted (c :: m) = true ↔ m.sorted = true ∧ ∀ d ∈ m, c.1 < d.1 := by
  induction m generalizing c with
  | nil => simp [Memory.sorted]
  | cons d rest ih =>
    simp only [Memory.sorted, Bool.and_eq_true, decide_eq_true_eq, List.mem_cons, forall_eq_or_imp]
    constructor
    · rintro ⟨hcd, h⟩
      exact ⟨h, hcd, fun e he => Nat.lt_trans hcd (((ih d).1 h).2 e he)⟩
    · rintro ⟨h, hcd, -⟩
      exact ⟨hcd, h⟩

theorem Memory.mem_insert {m : Memory} {a : Nat} {v : Byte} {d : Host.Cell} (h : d ∈ m.insert a v) :
    d = (a, v) ∨ d ∈ m := by
  induction m with
  | nil => simpa [Memory.insert] using h
  | cons c rest ih =>
    simp only [Memory.insert] at h
    split at h
    · simpa using h
    · split at h
      · rcases List.mem_cons.1 h with h | h
        · exact .inl h
        · exact .inr (List.mem_cons_of_mem _ h)
      · rcases List.mem_cons.1 h with h | h
        · exact .inr (h ▸ List.mem_cons_self)
        · exact (ih h).imp id (List.mem_cons_of_mem _)

theorem Memory.mem_erase {m : Memory} {a : Nat} {d : Host.Cell} (h : d ∈ m.erase a) : d ∈ m := by
  induction m with
  | nil => exact h
  | cons c rest ih =>
    simp only [Memory.erase] at h
    split at h
    · exact List.mem_cons_of_mem _ (ih h)
    · rcases List.mem_cons.1 h with h | h
      · exact h ▸ List.mem_cons_self
      · exact List.mem_cons_of_mem _ (ih h)

theorem Memory.sorted_insert (m : Memory) (a : Nat) (v : Byte) (h : m.sorted = true) :
    (m.insert a v).sorted = true := by
  induction m with
  | nil => rfl
  | cons c rest ih =>
    have hc := (Memory.sorted_cons c rest).1 h
    simp only [Memory.insert]
    split
    · next hlt =>
      refine (Memory.sorted_cons _ _).2 ⟨h, fun d hd => ?_⟩
      rcases List.mem_cons.1 hd with rfl | hd
      · exact hlt
      · exact Nat.lt_trans hlt (hc.2 d hd)
    · split
      · next heq => exact (Memory.sorted_cons _ _).2 ⟨hc.1, fun d hd => heq ▸ hc.2 d hd⟩
      · refine (Memory.sorted_cons _ _).2 ⟨ih hc.1, fun d hd => ?_⟩
        rcases Memory.mem_insert hd with rfl | hd
        · simp only; omega
        · exact hc.2 d hd

theorem Memory.sorted_erase (m : Memory) (a : Nat) (h : m.sorted = true) : (m.erase a).sorted = true := by
  induction m with
  | nil => rfl
  | cons c rest ih =>
    have hc := (Memory.sorted_cons c rest).1 h
    simp only [Memory.erase]
    split
    · exact ih hc.1
    · exact (Memory.sorted_cons _ _).2 ⟨ih hc.1, fun d hd => hc.2 d (Memory.mem_erase hd)⟩

theorem Memory.sorted_markStale (m : Memory) (a : Nat) (old : Byte) (h : m.sorted = true) :
    (m.markStale a old).sorted = true := by
  unfold Memory.markStale
  split
  · exact h
  · exact Memory.sorted_insert m a old h

/-- Every write keeps the canonical form. -/
theorem Memory.wf_write (m : Memory) (a : Nat) (v : Byte) (h : m.wf = true) : (m.write a v).wf = true := by
  simp only [Memory.wf, Bool.and_eq_true, List.all_eq_true] at h ⊢
  unfold Memory.write
  split
  · exact ⟨Memory.sorted_erase m a h.1, fun c hc => h.2 c (Memory.mem_erase hc)⟩
  · next hv =>
    refine ⟨Memory.sorted_insert m a v h.1, fun c hc => ?_⟩
    rcases Memory.mem_insert hc with rfl | hc
    · simpa using hv
    · exact h.2 c hc

theorem Memory.wf_nil : Memory.wf [] = true := rfl

/-- A write lists no address but its own and those listed before. -/
theorem Memory.mem_write {m : Memory} {a : Nat} {v : Byte} {d : Host.Cell} (h : d ∈ m.write a v) :
    d.1 = a ∨ d ∈ m := by
  unfold Memory.write at h
  split at h
  · exact .inr (Memory.mem_erase h)
  · exact (Memory.mem_insert h).imp (fun e => by rw [e]) id

theorem Memory.mem_markStale {m : Memory} {a : Nat} {old : Byte} {d : Host.Cell}
    (h : d ∈ m.markStale a old) : d.1 = a ∨ d ∈ m := by
  unfold Memory.markStale at h
  split at h
  · exact .inr h
  · exact (Memory.mem_insert h).imp (fun e => by rw [e]) id

/-- The memory that an image gives is in its canonical form, and within the address space. -/
theorem Memory.wf_ofImage (size : Nat) (image : List Host.Cell) : (Memory.ofImage size image).wf = true := by
  have keep : ∀ (cells : List Host.Cell) (m : Memory), m.wf = true →
      Memory.wf (cells.foldl (fun m c => m.write (c.1 % size) c.2) m) = true := by
    intro cells
    induction cells with
    | nil => exact fun _ h => h
    | cons c rest ih => exact fun m h => ih _ (Memory.wf_write m _ _ h)
  exact keep image [] Memory.wf_nil

theorem Memory.lt_ofImage {size : Nat} (hs : 0 < size) (image : List Host.Cell) :
    ∀ c ∈ Memory.ofImage size image, c.1 < size := by
  have keep : ∀ (cells : List Host.Cell) (m : Memory), (∀ c ∈ m, c.1 < size) →
      ∀ c ∈ cells.foldl (fun (m : Memory) c => m.write (c.1 % size) c.2) m, c.1 < size := by
    intro cells
    induction cells with
    | nil => exact fun _ h => h
    | cons d rest ih =>
      refine fun m h => ih _ fun c hc => ?_
      rcases Memory.mem_write hc with e | hc
      · rw [e]; exact Nat.mod_lt _ hs
      · exact h c hc
  exact keep image [] (by simp)

end Sys2Proof.Machine
end

