-- ==== Sys2Proof/Laws/State.lean ====
section
/-! SUPPORT. What each named update of the state leaves in each field, one lemma per field and update, and how the
register accessors see the updates. -/

namespace Sys2Proof.Machine

open Sys2Proof

/-! ### `setX` -/

@[simp] theorem State.setX_cfg (s : State) (r : Reg) (v : Word) : (s.setX r v).cfg = s.cfg := rfl
@[simp] theorem State.setX_f (s : State) (r : Reg) (v : Word) : (s.setX r v).f = s.f := rfl
@[simp] theorem State.setX_pc (s : State) (r : Reg) (v : Word) : (s.setX r v).pc = s.pc := rfl
@[simp] theorem State.setX_priv (s : State) (r : Reg) (v : Word) : (s.setX r v).priv = s.priv := rfl
@[simp] theorem State.setX_mie (s : State) (r : Reg) (v : Word) : (s.setX r v).mie = s.mie := rfl
@[simp] theorem State.setX_mpie (s : State) (r : Reg) (v : Word) : (s.setX r v).mpie = s.mpie := rfl
@[simp] theorem State.setX_mpp (s : State) (r : Reg) (v : Word) : (s.setX r v).mpp = s.mpp := rfl
@[simp] theorem State.setX_sie (s : State) (r : Reg) (v : Word) : (s.setX r v).sie = s.sie := rfl
@[simp] theorem State.setX_spie (s : State) (r : Reg) (v : Word) : (s.setX r v).spie = s.spie := rfl
@[simp] theorem State.setX_spp (s : State) (r : Reg) (v : Word) : (s.setX r v).spp = s.spp := rfl
@[simp] theorem State.setX_mepc (s : State) (r : Reg) (v : Word) : (s.setX r v).mepc = s.mepc := rfl
@[simp] theorem State.setX_sepc (s : State) (r : Reg) (v : Word) : (s.setX r v).sepc = s.sepc := rfl
@[simp] theorem State.setX_fcsr (s : State) (r : Reg) (v : Word) : (s.setX r v).fcsr = s.fcsr := rfl
@[simp] theorem State.setX_mtvec (s : State) (r : Reg) (v : Word) : (s.setX r v).mtvec = s.mtvec := rfl
@[simp] theorem State.setX_mcause (s : State) (r : Reg) (v : Word) : (s.setX r v).mcause = s.mcause := rfl
@[simp] theorem State.setX_mtval (s : State) (r : Reg) (v : Word) : (s.setX r v).mtval = s.mtval := rfl
@[simp] theorem State.setX_mscratch (s : State) (r : Reg) (v : Word) : (s.setX r v).mscratch = s.mscratch := rfl
@[simp] theorem State.setX_irqEnable (s : State) (r : Reg) (v : Word) : (s.setX r v).irqEnable = s.irqEnable := rfl
@[simp] theorem State.setX_irqPending (s : State) (r : Reg) (v : Word) : (s.setX r v).irqPending = s.irqPending := rfl
@[simp] theorem State.setX_reservation (s : State) (r : Reg) (v : Word) : (s.setX r v).reservation = s.reservation := rfl
@[simp] theorem State.setX_mem (s : State) (r : Reg) (v : Word) : (s.setX r v).mem = s.mem := rfl
@[simp] theorem State.setX_stale (s : State) (r : Reg) (v : Word) : (s.setX r v).stale = s.stale := rfl
@[simp] theorem State.setX_ioTrace (s : State) (r : Reg) (v : Word) : (s.setX r v).ioTrace = s.ioTrace := rfl
@[simp] theorem State.setX_idle (s : State) (r : Reg) (v : Word) : (s.setX r v).idle = s.idle := rfl
@[simp] theorem State.setX_irqInputs (s : State) (r : Reg) (v : Word) : (s.setX r v).irqInputs = s.irqInputs := rfl
@[simp] theorem State.setX_tick (s : State) (r : Reg) (v : Word) : (s.setX r v).tick = s.tick := rfl

/-! ### `setF` -/

@[simp] theorem State.setF_cfg (s : State) (r : Reg) (v : Word) : (s.setF r v).cfg = s.cfg := rfl
@[simp] theorem State.setF_x (s : State) (r : Reg) (v : Word) : (s.setF r v).x = s.x := rfl
@[simp] theorem State.setF_pc (s : State) (r : Reg) (v : Word) : (s.setF r v).pc = s.pc := rfl
@[simp] theorem State.setF_priv (s : State) (r : Reg) (v : Word) : (s.setF r v).priv = s.priv := rfl
@[simp] theorem State.setF_mie (s : State) (r : Reg) (v : Word) : (s.setF r v).mie = s.mie := rfl
@[simp] theorem State.setF_mpie (s : State) (r : Reg) (v : Word) : (s.setF r v).mpie = s.mpie := rfl
@[simp] theorem State.setF_mpp (s : State) (r : Reg) (v : Word) : (s.setF r v).mpp = s.mpp := rfl
@[simp] theorem State.setF_sie (s : State) (r : Reg) (v : Word) : (s.setF r v).sie = s.sie := rfl
@[simp] theorem State.setF_spie (s : State) (r : Reg) (v : Word) : (s.setF r v).spie = s.spie := rfl
@[simp] theorem State.setF_spp (s : State) (r : Reg) (v : Word) : (s.setF r v).spp = s.spp := rfl
@[simp] theorem State.setF_mepc (s : State) (r : Reg) (v : Word) : (s.setF r v).mepc = s.mepc := rfl
@[simp] theorem State.setF_sepc (s : State) (r : Reg) (v : Word) : (s.setF r v).sepc = s.sepc := rfl
@[simp] theorem State.setF_fcsr (s : State) (r : Reg) (v : Word) : (s.setF r v).fcsr = s.fcsr := rfl
@[simp] theorem State.setF_mtvec (s : State) (r : Reg) (v : Word) : (s.setF r v).mtvec = s.mtvec := rfl
@[simp] theorem State.setF_mcause (s : State) (r : Reg) (v : Word) : (s.setF r v).mcause = s.mcause := rfl
@[simp] theorem State.setF_mtval (s : State) (r : Reg) (v : Word) : (s.setF r v).mtval = s.mtval := rfl
@[simp] theorem State.setF_mscratch (s : State) (r : Reg) (v : Word) : (s.setF r v).mscratch = s.mscratch := rfl
@[simp] theorem State.setF_irqEnable (s : State) (r : Reg) (v : Word) : (s.setF r v).irqEnable = s.irqEnable := rfl
@[simp] theorem State.setF_irqPending (s : State) (r : Reg) (v : Word) : (s.setF r v).irqPending = s.irqPending := rfl
@[simp] theorem State.setF_reservation (s : State) (r : Reg) (v : Word) : (s.setF r v).reservation = s.reservation := rfl
@[simp] theorem State.setF_mem (s : State) (r : Reg) (v : Word) : (s.setF r v).mem = s.mem := rfl
@[simp] theorem State.setF_stale (s : State) (r : Reg) (v : Word) : (s.setF r v).stale = s.stale := rfl
@[simp] theorem State.setF_ioTrace (s : State) (r : Reg) (v : Word) : (s.setF r v).ioTrace = s.ioTrace := rfl
@[simp] theorem State.setF_idle (s : State) (r : Reg) (v : Word) : (s.setF r v).idle = s.idle := rfl
@[simp] theorem State.setF_irqInputs (s : State) (r : Reg) (v : Word) : (s.setF r v).irqInputs = s.irqInputs := rfl
@[simp] theorem State.setF_tick (s : State) (r : Reg) (v : Word) : (s.setF r v).tick = s.tick := rfl

/-! ### `setS` -/

@[simp] theorem State.setS_cfg (s : State) (r : Reg) (v : BitVec 32) : (s.setS r v).cfg = s.cfg := rfl
@[simp] theorem State.setS_x (s : State) (r : Reg) (v : BitVec 32) : (s.setS r v).x = s.x := rfl
@[simp] theorem State.setS_pc (s : State) (r : Reg) (v : BitVec 32) : (s.setS r v).pc = s.pc := rfl
@[simp] theorem State.setS_priv (s : State) (r : Reg) (v : BitVec 32) : (s.setS r v).priv = s.priv := rfl
@[simp] theorem State.setS_mie (s : State) (r : Reg) (v : BitVec 32) : (s.setS r v).mie = s.mie := rfl
@[simp] theorem State.setS_mpie (s : State) (r : Reg) (v : BitVec 32) : (s.setS r v).mpie = s.mpie := rfl
@[simp] theorem State.setS_mpp (s : State) (r : Reg) (v : BitVec 32) : (s.setS r v).mpp = s.mpp := rfl
@[simp] theorem State.setS_sie (s : State) (r : Reg) (v : BitVec 32) : (s.setS r v).sie = s.sie := rfl
@[simp] theorem State.setS_spie (s : State) (r : Reg) (v : BitVec 32) : (s.setS r v).spie = s.spie := rfl
@[simp] theorem State.setS_spp (s : State) (r : Reg) (v : BitVec 32) : (s.setS r v).spp = s.spp := rfl
@[simp] theorem State.setS_mepc (s : State) (r : Reg) (v : BitVec 32) : (s.setS r v).mepc = s.mepc := rfl
@[simp] theorem State.setS_sepc (s : State) (r : Reg) (v : BitVec 32) : (s.setS r v).sepc = s.sepc := rfl
@[simp] theorem State.setS_fcsr (s : State) (r : Reg) (v : BitVec 32) : (s.setS r v).fcsr = s.fcsr := rfl
@[simp] theorem State.setS_mtvec (s : State) (r : Reg) (v : BitVec 32) : (s.setS r v).mtvec = s.mtvec := rfl
@[simp] theorem State.setS_mcause (s : State) (r : Reg) (v : BitVec 32) : (s.setS r v).mcause = s.mcause := rfl
@[simp] theorem State.setS_mtval (s : State) (r : Reg) (v : BitVec 32) : (s.setS r v).mtval = s.mtval := rfl
@[simp] theorem State.setS_mscratch (s : State) (r : Reg) (v : BitVec 32) : (s.setS r v).mscratch = s.mscratch := rfl
@[simp] theorem State.setS_irqEnable (s : State) (r : Reg) (v : BitVec 32) : (s.setS r v).irqEnable = s.irqEnable := rfl
@[simp] theorem State.setS_irqPending (s : State) (r : Reg) (v : BitVec 32) : (s.setS r v).irqPending = s.irqPending := rfl
@[simp] theorem State.setS_reservation (s : State) (r : Reg) (v : BitVec 32) : (s.setS r v).reservation = s.reservation := rfl
@[simp] theorem State.setS_mem (s : State) (r : Reg) (v : BitVec 32) : (s.setS r v).mem = s.mem := rfl
@[simp] theorem State.setS_stale (s : State) (r : Reg) (v : BitVec 32) : (s.setS r v).stale = s.stale := rfl
@[simp] theorem State.setS_ioTrace (s : State) (r : Reg) (v : BitVec 32) : (s.setS r v).ioTrace = s.ioTrace := rfl
@[simp] theorem State.setS_idle (s : State) (r : Reg) (v : BitVec 32) : (s.setS r v).idle = s.idle := rfl
@[simp] theorem State.setS_irqInputs (s : State) (r : Reg) (v : BitVec 32) : (s.setS r v).irqInputs = s.irqInputs := rfl
@[simp] theorem State.setS_tick (s : State) (r : Reg) (v : BitVec 32) : (s.setS r v).tick = s.tick := rfl

/-! ### `setPc` -/

@[simp] theorem State.setPc_cfg (s : State) (v : Word) : (s.setPc v).cfg = s.cfg := rfl
@[simp] theorem State.setPc_x (s : State) (v : Word) : (s.setPc v).x = s.x := rfl
@[simp] theorem State.setPc_f (s : State) (v : Word) : (s.setPc v).f = s.f := rfl
@[simp] theorem State.setPc_priv (s : State) (v : Word) : (s.setPc v).priv = s.priv := rfl
@[simp] theorem State.setPc_mie (s : State) (v : Word) : (s.setPc v).mie = s.mie := rfl
@[simp] theorem State.setPc_mpie (s : State) (v : Word) : (s.setPc v).mpie = s.mpie := rfl
@[simp] theorem State.setPc_mpp (s : State) (v : Word) : (s.setPc v).mpp = s.mpp := rfl
@[simp] theorem State.setPc_sie (s : State) (v : Word) : (s.setPc v).sie = s.sie := rfl
@[simp] theorem State.setPc_spie (s : State) (v : Word) : (s.setPc v).spie = s.spie := rfl
@[simp] theorem State.setPc_spp (s : State) (v : Word) : (s.setPc v).spp = s.spp := rfl
@[simp] theorem State.setPc_mepc (s : State) (v : Word) : (s.setPc v).mepc = s.mepc := rfl
@[simp] theorem State.setPc_sepc (s : State) (v : Word) : (s.setPc v).sepc = s.sepc := rfl
@[simp] theorem State.setPc_fcsr (s : State) (v : Word) : (s.setPc v).fcsr = s.fcsr := rfl
@[simp] theorem State.setPc_mtvec (s : State) (v : Word) : (s.setPc v).mtvec = s.mtvec := rfl
@[simp] theorem State.setPc_mcause (s : State) (v : Word) : (s.setPc v).mcause = s.mcause := rfl
@[simp] theorem State.setPc_mtval (s : State) (v : Word) : (s.setPc v).mtval = s.mtval := rfl
@[simp] theorem State.setPc_mscratch (s : State) (v : Word) : (s.setPc v).mscratch = s.mscratch := rfl
@[simp] theorem State.setPc_irqEnable (s : State) (v : Word) : (s.setPc v).irqEnable = s.irqEnable := rfl
@[simp] theorem State.setPc_irqPending (s : State) (v : Word) : (s.setPc v).irqPending = s.irqPending := rfl
@[simp] theorem State.setPc_reservation (s : State) (v : Word) : (s.setPc v).reservation = s.reservation := rfl
@[simp] theorem State.setPc_mem (s : State) (v : Word) : (s.setPc v).mem = s.mem := rfl
@[simp] theorem State.setPc_stale (s : State) (v : Word) : (s.setPc v).stale = s.stale := rfl
@[simp] theorem State.setPc_ioTrace (s : State) (v : Word) : (s.setPc v).ioTrace = s.ioTrace := rfl
@[simp] theorem State.setPc_idle (s : State) (v : Word) : (s.setPc v).idle = s.idle := rfl
@[simp] theorem State.setPc_irqInputs (s : State) (v : Word) : (s.setPc v).irqInputs = s.irqInputs := rfl
@[simp] theorem State.setPc_tick (s : State) (v : Word) : (s.setPc v).tick = s.tick := rfl

/-! ### `advance` -/

@[simp] theorem State.advance_cfg (s : State) (n : Word) : (s.advance n).cfg = s.cfg := rfl
@[simp] theorem State.advance_x (s : State) (n : Word) : (s.advance n).x = s.x := rfl
@[simp] theorem State.advance_f (s : State) (n : Word) : (s.advance n).f = s.f := rfl
@[simp] theorem State.advance_priv (s : State) (n : Word) : (s.advance n).priv = s.priv := rfl
@[simp] theorem State.advance_mie (s : State) (n : Word) : (s.advance n).mie = s.mie := rfl
@[simp] theorem State.advance_mpie (s : State) (n : Word) : (s.advance n).mpie = s.mpie := rfl
@[simp] theorem State.advance_mpp (s : State) (n : Word) : (s.advance n).mpp = s.mpp := rfl
@[simp] theorem State.advance_sie (s : State) (n : Word) : (s.advance n).sie = s.sie := rfl
@[simp] theorem State.advance_spie (s : State) (n : Word) : (s.advance n).spie = s.spie := rfl
@[simp] theorem State.advance_spp (s : State) (n : Word) : (s.advance n).spp = s.spp := rfl
@[simp] theorem State.advance_mepc (s : State) (n : Word) : (s.advance n).mepc = s.mepc := rfl
@[simp] theorem State.advance_sepc (s : State) (n : Word) : (s.advance n).sepc = s.sepc := rfl
@[simp] theorem State.advance_fcsr (s : State) (n : Word) : (s.advance n).fcsr = s.fcsr := rfl
@[simp] theorem State.advance_mtvec (s : State) (n : Word) : (s.advance n).mtvec = s.mtvec := rfl
@[simp] theorem State.advance_mcause (s : State) (n : Word) : (s.advance n).mcause = s.mcause := rfl
@[simp] theorem State.advance_mtval (s : State) (n : Word) : (s.advance n).mtval = s.mtval := rfl
@[simp] theorem State.advance_mscratch (s : State) (n : Word) : (s.advance n).mscratch = s.mscratch := rfl
@[simp] theorem State.advance_irqEnable (s : State) (n : Word) : (s.advance n).irqEnable = s.irqEnable := rfl
@[simp] theorem State.advance_irqPending (s : State) (n : Word) : (s.advance n).irqPending = s.irqPending := rfl
@[simp] theorem State.advance_reservation (s : State) (n : Word) : (s.advance n).reservation = s.reservation := rfl
@[simp] theorem State.advance_mem (s : State) (n : Word) : (s.advance n).mem = s.mem := rfl
@[simp] theorem State.advance_stale (s : State) (n : Word) : (s.advance n).stale = s.stale := rfl
@[simp] theorem State.advance_ioTrace (s : State) (n : Word) : (s.advance n).ioTrace = s.ioTrace := rfl
@[simp] theorem State.advance_idle (s : State) (n : Word) : (s.advance n).idle = s.idle := rfl
@[simp] theorem State.advance_irqInputs (s : State) (n : Word) : (s.advance n).irqInputs = s.irqInputs := rfl
@[simp] theorem State.advance_tick (s : State) (n : Word) : (s.advance n).tick = s.tick := rfl

/-! ### `accrue` -/

@[simp] theorem State.accrue_cfg (s : State) (fl : BitVec 5) : (s.accrue fl).cfg = s.cfg := rfl
@[simp] theorem State.accrue_x (s : State) (fl : BitVec 5) : (s.accrue fl).x = s.x := rfl
@[simp] theorem State.accrue_f (s : State) (fl : BitVec 5) : (s.accrue fl).f = s.f := rfl
@[simp] theorem State.accrue_pc (s : State) (fl : BitVec 5) : (s.accrue fl).pc = s.pc := rfl
@[simp] theorem State.accrue_priv (s : State) (fl : BitVec 5) : (s.accrue fl).priv = s.priv := rfl
@[simp] theorem State.accrue_mie (s : State) (fl : BitVec 5) : (s.accrue fl).mie = s.mie := rfl
@[simp] theorem State.accrue_mpie (s : State) (fl : BitVec 5) : (s.accrue fl).mpie = s.mpie := rfl
@[simp] theorem State.accrue_mpp (s : State) (fl : BitVec 5) : (s.accrue fl).mpp = s.mpp := rfl
@[simp] theorem State.accrue_sie (s : State) (fl : BitVec 5) : (s.accrue fl).sie = s.sie := rfl
@[simp] theorem State.accrue_spie (s : State) (fl : BitVec 5) : (s.accrue fl).spie = s.spie := rfl
@[simp] theorem State.accrue_spp (s : State) (fl : BitVec 5) : (s.accrue fl).spp = s.spp := rfl
@[simp] theorem State.accrue_mepc (s : State) (fl : BitVec 5) : (s.accrue fl).mepc = s.mepc := rfl
@[simp] theorem State.accrue_sepc (s : State) (fl : BitVec 5) : (s.accrue fl).sepc = s.sepc := rfl
@[simp] theorem State.accrue_mtvec (s : State) (fl : BitVec 5) : (s.accrue fl).mtvec = s.mtvec := rfl
@[simp] theorem State.accrue_mcause (s : State) (fl : BitVec 5) : (s.accrue fl).mcause = s.mcause := rfl
@[simp] theorem State.accrue_mtval (s : State) (fl : BitVec 5) : (s.accrue fl).mtval = s.mtval := rfl
@[simp] theorem State.accrue_mscratch (s : State) (fl : BitVec 5) : (s.accrue fl).mscratch = s.mscratch := rfl
@[simp] theorem State.accrue_irqEnable (s : State) (fl : BitVec 5) : (s.accrue fl).irqEnable = s.irqEnable := rfl
@[simp] theorem State.accrue_irqPending (s : State) (fl : BitVec 5) : (s.accrue fl).irqPending = s.irqPending := rfl
@[simp] theorem State.accrue_reservation (s : State) (fl : BitVec 5) : (s.accrue fl).reservation = s.reservation := rfl
@[simp] theorem State.accrue_mem (s : State) (fl : BitVec 5) : (s.accrue fl).mem = s.mem := rfl
@[simp] theorem State.accrue_stale (s : State) (fl : BitVec 5) : (s.accrue fl).stale = s.stale := rfl
@[simp] theorem State.accrue_ioTrace (s : State) (fl : BitVec 5) : (s.accrue fl).ioTrace = s.ioTrace := rfl
@[simp] theorem State.accrue_idle (s : State) (fl : BitVec 5) : (s.accrue fl).idle = s.idle := rfl
@[simp] theorem State.accrue_irqInputs (s : State) (fl : BitVec 5) : (s.accrue fl).irqInputs = s.irqInputs := rfl
@[simp] theorem State.accrue_tick (s : State) (fl : BitVec 5) : (s.accrue fl).tick = s.tick := rfl

@[simp] theorem State.setPc_pc (s : State) (v : Word) : (s.setPc v).pc = truncX s.cfg.xlen v := rfl
@[simp] theorem State.advance_pc (s : State) (n : Word) :
    (s.advance n).pc = truncX s.cfg.xlen (s.pc + n) := rfl
@[simp] theorem State.setX_zero (s : State) (v : Word) : s.setX 0#5 v = s := rfl

/-! ### Values of the register width -/

theorem truncX_toNat (xl : Xlen) (v : Word) : (truncX xl v).toNat = v.toNat % 2 ^ xl.bits := by
  cases xl
  · simp only [truncX, Xlen.bits, BitVec.toNat_setWidth]
    exact Nat.mod_eq_of_lt (by omega)
  · simp only [truncX, Xlen.bits]
    exact (Nat.mod_eq_of_lt v.isLt).symm

@[simp] theorem truncX_truncX (xl : Xlen) (v : Word) : truncX xl (truncX xl v) = truncX xl v := by
  apply BitVec.eq_of_toNat_eq
  rw [truncX_toNat, truncX_toNat, Nat.mod_mod]

@[simp] theorem truncF_truncF (fp : FpExt) (v : Word) : truncF fp (truncF fp v) = truncF fp v := by
  cases fp <;> simp only [truncF] <;> ext i hi <;> simp

/-! ### Reading a register after an update -/

@[simp] theorem State.readX_zero (s : State) : s.readX 0#5 = 0#64 := rfl

@[simp] theorem State.truncX_readX (s : State) (r : Reg) : truncX s.cfg.xlen (s.readX r) = s.readX r := by
  unfold State.readX
  split
  · cases s.cfg.xlen <;> rfl
  · exact truncX_truncX _ _

theorem State.readX_setX_self (s : State) (r : Reg) (v : Word) :
    (s.setX r v).readX r = if r = 0#5 then 0#64 else truncX s.cfg.xlen v := by
  by_cases h : r = 0#5 <;> simp [State.readX, State.setX, h]

theorem State.readX_setX_ne (s : State) (r r' : Reg) (v : Word) (h : r' ≠ r) :
    (s.setX r v).readX r' = s.readX r' := by
  have hn : r.toNat ≠ r'.toNat := fun e => h (BitVec.eq_of_toNat_eq e.symm)
  by_cases h0 : r = 0#5
  · subst h0; rfl
  · simp [State.readX, State.setX, h0, Vector.getElem_set_ne _ _ hn]

@[simp] theorem State.readX_setF (s : State) (r r' : Reg) (v : Word) :
    (s.setF r v).readX r' = s.readX r' := rfl
@[simp] theorem State.readX_setS (s : State) (r r' : Reg) (v : BitVec 32) :
    (s.setS r v).readX r' = s.readX r' := rfl
@[simp] theorem State.readX_setPc (s : State) (r : Reg) (v : Word) : (s.setPc v).readX r = s.readX r := rfl
@[simp] theorem State.readX_advance (s : State) (r : Reg) (n : Word) :
    (s.advance n).readX r = s.readX r := rfl
@[simp] theorem State.readX_accrue (s : State) (r : Reg) (fl : BitVec 5) :
    (s.accrue fl).readX r = s.readX r := rfl

@[simp] theorem State.readF_setX (s : State) (r r' : Reg) (v : Word) :
    (s.setX r v).readF r' = s.readF r' := rfl
@[simp] theorem State.readF_setPc (s : State) (r : Reg) (v : Word) : (s.setPc v).readF r = s.readF r := rfl
@[simp] theorem State.readF_advance (s : State) (r : Reg) (n : Word) :
    (s.advance n).readF r = s.readF r := rfl
@[simp] theorem State.readF_accrue (s : State) (r : Reg) (fl : BitVec 5) :
    (s.accrue fl).readF r = s.readF r := rfl

@[simp] theorem State.readF_setF_self (s : State) (r : Reg) (v : Word) :
    (s.setF r v).readF r = truncF s.cfg.fp v := by
  simp [State.readF, State.setF]

theorem State.readF_setF_ne (s : State) (r r' : Reg) (v : Word) (h : r' ≠ r) :
    (s.setF r v).readF r' = s.readF r' := by
  have hn : r.toNat ≠ r'.toNat := fun e => h (BitVec.eq_of_toNat_eq e.symm)
  simp [State.readF, State.setF, Vector.getElem_set_ne _ _ hn]

end Sys2Proof.Machine
end

