-- ==== Sys2Proof/Laws/Ops.lean ====
section
/-! SUPPORT. For each shared operation, once, everything it can do; later proofs cite these lemmas and do not
unfold the operation. -/

namespace Sys2Proof.Machine

open Sys2Proof

/-! ### Exceptions and returns -/

/-- What `raise` answers: the trap entry or the end of the run. -/
theorem State.raise_cases (s : State) (e : Exc) :
    (s.cfg.trap = .machine ∧
      s.raise e = .next (s.enterTrap (BitVec.ofNat 64 e.code) e.info s.trapBase)) ∨
    (s.cfg.trap = .halt ∧ s.raise e = .fault (.trapped e s.pc)) := by
  unfold State.raise
  cases h : s.cfg.trap <;> simp

/-- If an exception gives a next state, it is the trap entry. -/
theorem State.raise_next {s t : State} {e : Exc} (h : s.raise e = .next t) :
    s.cfg.trap = .machine ∧ t = s.enterTrap (BitVec.ofNat 64 e.code) e.info s.trapBase := by
  rcases s.raise_cases e with ⟨hm, hr⟩ | ⟨_, hr⟩ <;> rw [hr] at h <;> cases h
  exact ⟨hm, rfl⟩

@[simp] theorem State.enterTrap_cfg (s : State) (c v a : Word) : (s.enterTrap c v a).cfg = s.cfg := rfl
@[simp] theorem State.enterTrap_x (s : State) (c v a : Word) : (s.enterTrap c v a).x = s.x := rfl
@[simp] theorem State.enterTrap_f (s : State) (c v a : Word) : (s.enterTrap c v a).f = s.f := rfl
@[simp] theorem State.enterTrap_sie (s : State) (c v a : Word) : (s.enterTrap c v a).sie = s.sie := rfl
@[simp] theorem State.enterTrap_spie (s : State) (c v a : Word) : (s.enterTrap c v a).spie = s.spie := rfl
@[simp] theorem State.enterTrap_spp (s : State) (c v a : Word) : (s.enterTrap c v a).spp = s.spp := rfl
@[simp] theorem State.enterTrap_sepc (s : State) (c v a : Word) : (s.enterTrap c v a).sepc = s.sepc := rfl
@[simp] theorem State.enterTrap_fcsr (s : State) (c v a : Word) : (s.enterTrap c v a).fcsr = s.fcsr := rfl
@[simp] theorem State.enterTrap_mtvec (s : State) (c v a : Word) : (s.enterTrap c v a).mtvec = s.mtvec := rfl
@[simp] theorem State.enterTrap_mscratch (s : State) (c v a : Word) : (s.enterTrap c v a).mscratch = s.mscratch := rfl
@[simp] theorem State.enterTrap_irqEnable (s : State) (c v a : Word) : (s.enterTrap c v a).irqEnable = s.irqEnable := rfl
@[simp] theorem State.enterTrap_irqPending (s : State) (c v a : Word) : (s.enterTrap c v a).irqPending = s.irqPending := rfl
@[simp] theorem State.enterTrap_reservation (s : State) (c v a : Word) : (s.enterTrap c v a).reservation = s.reservation := rfl
@[simp] theorem State.enterTrap_mem (s : State) (c v a : Word) : (s.enterTrap c v a).mem = s.mem := rfl
@[simp] theorem State.enterTrap_stale (s : State) (c v a : Word) : (s.enterTrap c v a).stale = s.stale := rfl
@[simp] theorem State.enterTrap_ioTrace (s : State) (c v a : Word) : (s.enterTrap c v a).ioTrace = s.ioTrace := rfl
@[simp] theorem State.enterTrap_idle (s : State) (c v a : Word) : (s.enterTrap c v a).idle = s.idle := rfl
@[simp] theorem State.enterTrap_irqInputs (s : State) (c v a : Word) : (s.enterTrap c v a).irqInputs = s.irqInputs := rfl
@[simp] theorem State.enterTrap_tick (s : State) (c v a : Word) : (s.enterTrap c v a).tick = s.tick := rfl

/-! ### Stores -/

@[simp] theorem State.storeByte_cfg (s : State) (a : Nat) (v : Byte) : (s.storeByte a v).cfg = s.cfg := by
  unfold State.storeByte; split <;> rfl
@[simp] theorem State.storeByte_x (s : State) (a : Nat) (v : Byte) : (s.storeByte a v).x = s.x := by
  unfold State.storeByte; split <;> rfl
@[simp] theorem State.storeByte_f (s : State) (a : Nat) (v : Byte) : (s.storeByte a v).f = s.f := by
  unfold State.storeByte; split <;> rfl
@[simp] theorem State.storeByte_pc (s : State) (a : Nat) (v : Byte) : (s.storeByte a v).pc = s.pc := by
  unfold State.storeByte; split <;> rfl
@[simp] theorem State.storeByte_priv (s : State) (a : Nat) (v : Byte) : (s.storeByte a v).priv = s.priv := by
  unfold State.storeByte; split <;> rfl
@[simp] theorem State.storeByte_mie (s : State) (a : Nat) (v : Byte) : (s.storeByte a v).mie = s.mie := by
  unfold State.storeByte; split <;> rfl
@[simp] theorem State.storeByte_mpie (s : State) (a : Nat) (v : Byte) : (s.storeByte a v).mpie = s.mpie := by
  unfold State.storeByte; split <;> rfl
@[simp] theorem State.storeByte_mpp (s : State) (a : Nat) (v : Byte) : (s.storeByte a v).mpp = s.mpp := by
  unfold State.storeByte; split <;> rfl
@[simp] theorem State.storeByte_sie (s : State) (a : Nat) (v : Byte) : (s.storeByte a v).sie = s.sie := by
  unfold State.storeByte; split <;> rfl
@[simp] theorem State.storeByte_spie (s : State) (a : Nat) (v : Byte) : (s.storeByte a v).spie = s.spie := by
  unfold State.storeByte; split <;> rfl
@[simp] theorem State.storeByte_spp (s : State) (a : Nat) (v : Byte) : (s.storeByte a v).spp = s.spp := by
  unfold State.storeByte; split <;> rfl
@[simp] theorem State.storeByte_mepc (s : State) (a : Nat) (v : Byte) : (s.storeByte a v).mepc = s.mepc := by
  unfold State.storeByte; split <;> rfl
@[simp] theorem State.storeByte_sepc (s : State) (a : Nat) (v : Byte) : (s.storeByte a v).sepc = s.sepc := by
  unfold State.storeByte; split <;> rfl
@[simp] theorem State.storeByte_fcsr (s : State) (a : Nat) (v : Byte) : (s.storeByte a v).fcsr = s.fcsr := by
  unfold State.storeByte; split <;> rfl
@[simp] theorem State.storeByte_mtvec (s : State) (a : Nat) (v : Byte) : (s.storeByte a v).mtvec = s.mtvec := by
  unfold State.storeByte; split <;> rfl
@[simp] theorem State.storeByte_mcause (s : State) (a : Nat) (v : Byte) : (s.storeByte a v).mcause = s.mcause := by
  unfold State.storeByte; split <;> rfl
@[simp] theorem State.storeByte_mtval (s : State) (a : Nat) (v : Byte) : (s.storeByte a v).mtval = s.mtval := by
  unfold State.storeByte; split <;> rfl
@[simp] theorem State.storeByte_mscratch (s : State) (a : Nat) (v : Byte) : (s.storeByte a v).mscratch = s.mscratch := by
  unfold State.storeByte; split <;> rfl
@[simp] theorem State.storeByte_irqEnable (s : State) (a : Nat) (v : Byte) : (s.storeByte a v).irqEnable = s.irqEnable := by
  unfold State.storeByte; split <;> rfl
@[simp] theorem State.storeByte_irqPending (s : State) (a : Nat) (v : Byte) : (s.storeByte a v).irqPending = s.irqPending := by
  unfold State.storeByte; split <;> rfl
@[simp] theorem State.storeByte_reservation (s : State) (a : Nat) (v : Byte) : (s.storeByte a v).reservation = s.reservation := by
  unfold State.storeByte; split <;> rfl
@[simp] theorem State.storeByte_idle (s : State) (a : Nat) (v : Byte) : (s.storeByte a v).idle = s.idle := by
  unfold State.storeByte; split <;> rfl
@[simp] theorem State.storeByte_irqInputs (s : State) (a : Nat) (v : Byte) : (s.storeByte a v).irqInputs = s.irqInputs := by
  unfold State.storeByte; split <;> rfl
@[simp] theorem State.storeByte_tick (s : State) (a : Nat) (v : Byte) : (s.storeByte a v).tick = s.tick := by
  unfold State.storeByte; split <;> rfl
@[simp] theorem State.storeBytes_cfg (s : State) (addr v : Word) (n : Nat) :
    (s.storeBytes addr v n).cfg = s.cfg := by
  induction n with
  | zero => rfl
  | succ n ih => exact (State.storeByte_cfg _ _ _).trans ih
@[simp] theorem State.storeBytes_x (s : State) (addr v : Word) (n : Nat) :
    (s.storeBytes addr v n).x = s.x := by
  induction n with
  | zero => rfl
  | succ n ih => exact (State.storeByte_x _ _ _).trans ih
@[simp] theorem State.storeBytes_f (s : State) (addr v : Word) (n : Nat) :
    (s.storeBytes addr v n).f = s.f := by
  induction n with
  | zero => rfl
  | succ n ih => exact (State.storeByte_f _ _ _).trans ih
@[simp] theorem State.storeBytes_pc (s : State) (addr v : Word) (n : Nat) :
    (s.storeBytes addr v n).pc = s.pc := by
  induction n with
  | zero => rfl
  | succ n ih => exact (State.storeByte_pc _ _ _).trans ih
@[simp] theorem State.storeBytes_priv (s : State) (addr v : Word) (n : Nat) :
    (s.storeBytes addr v n).priv = s.priv := by
  induction n with
  | zero => rfl
  | succ n ih => exact (State.storeByte_priv _ _ _).trans ih
@[simp] theorem State.storeBytes_mie (s : State) (addr v : Word) (n : Nat) :
    (s.storeBytes addr v n).mie = s.mie := by
  induction n with
  | zero => rfl
  | succ n ih => exact (State.storeByte_mie _ _ _).trans ih
@[simp] theorem State.storeBytes_mpie (s : State) (addr v : Word) (n : Nat) :
    (s.storeBytes addr v n).mpie = s.mpie := by
  induction n with
  | zero => rfl
  | succ n ih => exact (State.storeByte_mpie _ _ _).trans ih
@[simp] theorem State.storeBytes_mpp (s : State) (addr v : Word) (n : Nat) :
    (s.storeBytes addr v n).mpp = s.mpp := by
  induction n with
  | zero => rfl
  | succ n ih => exact (State.storeByte_mpp _ _ _).trans ih
@[simp] theorem State.storeBytes_sie (s : State) (addr v : Word) (n : Nat) :
    (s.storeBytes addr v n).sie = s.sie := by
  induction n with
  | zero => rfl
  | succ n ih => exact (State.storeByte_sie _ _ _).trans ih
@[simp] theorem State.storeBytes_spie (s : State) (addr v : Word) (n : Nat) :
    (s.storeBytes addr v n).spie = s.spie := by
  induction n with
  | zero => rfl
  | succ n ih => exact (State.storeByte_spie _ _ _).trans ih
@[simp] theorem State.storeBytes_spp (s : State) (addr v : Word) (n : Nat) :
    (s.storeBytes addr v n).spp = s.spp := by
  induction n with
  | zero => rfl
  | succ n ih => exact (State.storeByte_spp _ _ _).trans ih
@[simp] theorem State.storeBytes_mepc (s : State) (addr v : Word) (n : Nat) :
    (s.storeBytes addr v n).mepc = s.mepc := by
  induction n with
  | zero => rfl
  | succ n ih => exact (State.storeByte_mepc _ _ _).trans ih
@[simp] theorem State.storeBytes_sepc (s : State) (addr v : Word) (n : Nat) :
    (s.storeBytes addr v n).sepc = s.sepc := by
  induction n with
  | zero => rfl
  | succ n ih => exact (State.storeByte_sepc _ _ _).trans ih
@[simp] theorem State.storeBytes_fcsr (s : State) (addr v : Word) (n : Nat) :
    (s.storeBytes addr v n).fcsr = s.fcsr := by
  induction n with
  | zero => rfl
  | succ n ih => exact (State.storeByte_fcsr _ _ _).trans ih
@[simp] theorem State.storeBytes_mtvec (s : State) (addr v : Word) (n : Nat) :
    (s.storeBytes addr v n).mtvec = s.mtvec := by
  induction n with
  | zero => rfl
  | succ n ih => exact (State.storeByte_mtvec _ _ _).trans ih
@[simp] theorem State.storeBytes_mcause (s : State) (addr v : Word) (n : Nat) :
    (s.storeBytes addr v n).mcause = s.mcause := by
  induction n with
  | zero => rfl
  | succ n ih => exact (State.storeByte_mcause _ _ _).trans ih
@[simp] theorem State.storeBytes_mtval (s : State) (addr v : Word) (n : Nat) :
    (s.storeBytes addr v n).mtval = s.mtval := by
  induction n with
  | zero => rfl
  | succ n ih => exact (State.storeByte_mtval _ _ _).trans ih
@[simp] theorem State.storeBytes_mscratch (s : State) (addr v : Word) (n : Nat) :
    (s.storeBytes addr v n).mscratch = s.mscratch := by
  induction n with
  | zero => rfl
  | succ n ih => exact (State.storeByte_mscratch _ _ _).trans ih
@[simp] theorem State.storeBytes_irqEnable (s : State) (addr v : Word) (n : Nat) :
    (s.storeBytes addr v n).irqEnable = s.irqEnable := by
  induction n with
  | zero => rfl
  | succ n ih => exact (State.storeByte_irqEnable _ _ _).trans ih
@[simp] theorem State.storeBytes_irqPending (s : State) (addr v : Word) (n : Nat) :
    (s.storeBytes addr v n).irqPending = s.irqPending := by
  induction n with
  | zero => rfl
  | succ n ih => exact (State.storeByte_irqPending _ _ _).trans ih
@[simp] theorem State.storeBytes_reservation (s : State) (addr v : Word) (n : Nat) :
    (s.storeBytes addr v n).reservation = s.reservation := by
  induction n with
  | zero => rfl
  | succ n ih => exact (State.storeByte_reservation _ _ _).trans ih
@[simp] theorem State.storeBytes_idle (s : State) (addr v : Word) (n : Nat) :
    (s.storeBytes addr v n).idle = s.idle := by
  induction n with
  | zero => rfl
  | succ n ih => exact (State.storeByte_idle _ _ _).trans ih
@[simp] theorem State.storeBytes_irqInputs (s : State) (addr v : Word) (n : Nat) :
    (s.storeBytes addr v n).irqInputs = s.irqInputs := by
  induction n with
  | zero => rfl
  | succ n ih => exact (State.storeByte_irqInputs _ _ _).trans ih
@[simp] theorem State.storeBytes_tick (s : State) (addr v : Word) (n : Nat) :
    (s.storeBytes addr v n).tick = s.tick := by
  induction n with
  | zero => rfl
  | succ n ih => exact (State.storeByte_tick _ _ _).trans ih

@[simp] theorem State.classAt_storeBytes (s : State) (addr v : Word) (n a : Nat) :
    (s.storeBytes addr v n).classAt a = s.classAt a := by
  simp [State.classAt]

/-- The bytes of one access are distinct when it is no longer than the address space. -/
theorem byteAddr_inj {xl : Xlen} {addr : Word} {i j : Nat} (hi : i < 2 ^ 32) (hj : j < 2 ^ 32)
    (h : byteAddr xl addr i = byteAddr xl addr j) : i = j := by
  unfold byteAddr at h
  cases xl <;> simp only [Xlen.bits] at h <;> omega

theorem byteAddr_lt (xl : Xlen) (addr : Word) (i : Nat) : byteAddr xl addr i < 2 ^ xl.bits :=
  Nat.mod_lt _ (Nat.two_pow_pos _)

/-- A stored byte leaves every other byte of memory alone. -/
theorem State.read_storeByte_ne (s : State) (a b : Nat) (v : Byte) (h : b ≠ a) :
    (s.storeByte a v).mem.read b = s.mem.read b := by
  unfold State.storeByte
  split
  · rfl
  · exact Memory.read_write_ne _ _ _ _ h
  · rfl

/-- A byte stored to ram is read back. -/
theorem State.read_storeByte_self (s : State) (a : Nat) (v : Byte) (h : s.classAt a = .ram) :
    (s.storeByte a v).mem.read a = v := by
  unfold State.storeByte
  rw [h]
  exact Memory.read_write_self _ _ _

/-- A store leaves every byte outside it alone. -/
theorem State.read_storeBytes_ne (s : State) (addr v : Word) (n b : Nat)
    (h : ∀ i, i < n → b ≠ byteAddr s.cfg.xlen addr i) :
    (s.storeBytes addr v n).mem.read b = s.mem.read b := by
  induction n with
  | zero => rfl
  | succ n ih =>
    exact (State.read_storeByte_ne _ _ _ _ (h n (Nat.lt_succ_self n))).trans
      (ih fun i hi => h i (Nat.lt_succ_of_lt hi))

/-- Each byte that a store puts into ram holds its part of the value. -/
theorem State.read_storeBytes_self (s : State) (addr v : Word) (n i : Nat) (hn : n ≤ 2 ^ 32) (hi : i < n)
    (h : s.classAt (byteAddr s.cfg.xlen addr i) = .ram) :
    (s.storeBytes addr v n).mem.read (byteAddr s.cfg.xlen addr i) = v.extractLsb' (8 * i) 8 := by
  induction n with
  | zero => omega
  | succ n ih =>
    unfold State.storeBytes
    by_cases hin : i = n
    · subst hin
      exact State.read_storeByte_self _ _ _ (by rw [State.classAt_storeBytes]; exact h)
    · rw [State.read_storeByte_ne]
      · exact ih (by omega) (by omega)
      · exact fun e => hin (byteAddr_inj (by omega) (by omega) e)

/-! ### How an instruction ends -/

theorem State.doneX_eq (s : State) (n : Word) (rd : Reg) (v : Word) :
    s.doneX n rd v = .next ((s.setX rd v).advance n) := rfl

/-- A load raises what its checks say, or puts the loaded number where it goes. -/
theorem State.load_cases (s : State) (ilen addr : Word) (n : Nat) (put : Nat → State → State) :
    (∃ e, s.loadExc addr n = some e ∧ s.load ilen addr n put = s.raise e) ∨
    (s.loadExc addr n = none ∧
      s.load ilen addr n put = .next ((put (s.loadBytes addr n) s).advance ilen)) := by
  unfold State.load
  cases s.loadExc addr n <;> simp

/-- A store raises what its checks say, or stores its bytes. -/
theorem State.store_cases (s : State) (ilen addr : Word) (n : Nat) (v : Word) :
    (∃ e, s.storeExc addr n = some e ∧ s.store ilen addr n v = s.raise e) ∨
    (s.storeExc addr n = none ∧ s.store ilen addr n v = .next ((s.storeBytes addr v n).advance ilen)) := by
  unfold State.store
  cases s.storeExc addr n <;> simp

/-- A jump raises at a misaligned target, or links and goes there. -/
theorem State.jump_cases (s : State) (target : Word) (link : State → State) :
    (s.cfg.c = false ∧ (truncX s.cfg.xlen target)[1] = true ∧
      s.jump target link = s.raise (.instrMisaligned (truncX s.cfg.xlen target))) ∨
    ((s.cfg.c = true ∨ (truncX s.cfg.xlen target)[1] = false) ∧
      s.jump target link = .next ((link s).setPc target)) := by
  unfold State.jump
  split
  · next h => exact .inl ⟨h.1, h.2, rfl⟩
  · next h =>
    refine .inr ⟨?_, rfl⟩
    cases hc : s.cfg.c <;> cases hb : (truncX s.cfg.xlen target)[1] <;> simp_all

/-- A branch jumps, or falls through. -/
theorem State.branch_eq (s : State) (ilen : Word) (taken : Bool) (off : Word) :
    s.branch ilen taken off = if taken then s.jump (s.pc + off) id else .next (s.advance ilen) := rfl

/-- A sequence gives a next state only through the next state of its first part. -/
theorem andThen_next {o : Outcome} {k : State → Outcome} {t : State} (h : andThen o k = .next t) :
    ∃ u, o = .next u ∧ k u = .next t := by
  cases o with
  | next u => exact ⟨u, rfl, h⟩
  | fault r => cases h
  | refused r => cases h

@[simp] theorem andThen_next_eq (s : State) (k : State → Outcome) : andThen (.next s) k = k s := rfl

/-- An instruction that rounds is illegal with a reserved mode, or runs with a mode. -/
theorem State.withRound_cases (s : State) (i : Instr) (rm : Rounding) (k : RoundMode → Outcome) :
    (s.roundMode rm = none ∧ s.withRound i rm k = s.raise (.illegal (i.word s.cfg.xlen))) ∨
    ∃ mode, s.roundMode rm = some mode ∧ s.withRound i rm k = k mode := by
  unfold State.withRound
  cases s.roundMode rm <;> simp

/-! ### Atomics -/

/-- A load-reserved raises what its checks say, or loads and reserves. -/
theorem State.loadReserved_cases (s : State) (addr : Word) (n : Nat) (rd : Reg) :
    (∃ e, s.reserveExc addr n = some e ∧ s.loadReserved addr n rd = s.raise e) ∨
    (s.reserveExc addr n = none ∧ s.loadReserved addr n rd =
      .next (({ s with reservation := some { addr := addr, size := n } }.setX rd
        (sextX s.cfg.xlen (BitVec.ofNat (8 * n) (s.loadBytes addr n)))).advance 4#64)) := by
  unfold State.loadReserved
  cases s.reserveExc addr n <;> simp

/-- A store-conditional raises, or stores with the code 0, or does not store and has the code 1. -/
theorem State.storeConditional_cases (s : State) (addr : Word) (n : Nat) (v : Word) (rd : Reg) :
    (∃ e, s.atomicExc addr n = some e ∧ s.storeConditional addr n v rd = s.raise e) ∨
    (s.atomicExc addr n = none ∧ s.scMaySucceed addr n = true ∧ s.spurious = false ∧
      s.storeConditional addr n v rd =
        .next (({ s.storeBytes addr v n with reservation := none }.setX rd 0#64).advance 4#64)) ∨
    (s.atomicExc addr n = none ∧ (s.scMaySucceed addr n = false ∨ s.spurious = true) ∧
      s.storeConditional addr n v rd =
        .next (({ s with reservation := none }.setX rd 1#64).advance 4#64)) := by
  unfold State.storeConditional
  cases s.atomicExc addr n <;> cases s.scMaySucceed addr n <;> cases s.spurious <;> simp

/-- A word operation raises what its checks say, or exchanges. -/
theorem State.amo32_cases (s : State) (addr src : Word) (rd : Reg)
    (op : BitVec 32 → BitVec 32 → BitVec 32) :
    (∃ e, s.atomicExc addr 4 = some e ∧ s.amo32 addr src rd op = s.raise e) ∨
    (s.atomicExc addr 4 = none ∧ s.amo32 addr src rd op =
      .next (((s.storeBytes addr ((op (BitVec.ofNat 32 (s.loadBytes addr 4))
        (src.setWidth 32)).setWidth 64) 4).setX rd
        (sextX s.cfg.xlen (BitVec.ofNat 32 (s.loadBytes addr 4)))).advance 4#64)) := by
  unfold State.amo32
  cases s.atomicExc addr 4 <;> simp

/-- A doubleword operation raises what its checks say, or exchanges. -/
theorem State.amo64_cases (s : State) (addr src : Word) (rd : Reg) (op : Word → Word → Word) :
    (∃ e, s.atomicExc addr 8 = some e ∧ s.amo64 addr src rd op = s.raise e) ∨
    (s.atomicExc addr 8 = none ∧ s.amo64 addr src rd op =
      .next (((s.storeBytes addr (op (BitVec.ofNat 64 (s.loadBytes addr 8)) src) 8).setX rd
        (BitVec.ofNat 64 (s.loadBytes addr 8))).advance 4#64)) := by
  unfold State.amo64
  cases s.atomicExc addr 8 <;> simp

/-! ### Control and status registers -/

/-- A CSR instruction is illegal, or reads, and writes when it writes. -/
theorem State.csrOp_cases (s : State) (i : Instr) (rd : Reg) (a : BitVec 12) (writes : Bool)
    (new : Word → Word) :
    (s.csrFor a writes = none ∧
      s.csrOp i rd a writes new = s.raise (.illegal (i.word s.cfg.xlen))) ∨
    ∃ c, s.csrFor a writes = some c ∧ s.csrOp i rd a writes new =
      .next (((if writes then s.writeCsr c (new (s.readCsr c)) else s).setX rd (s.readCsr c)).advance 4#64) := by
  unfold State.csrOp
  cases s.csrFor a writes <;> simp [State.doneX]

@[simp] theorem State.writeCsr_cfg (s : State) (c : Csr) (v : Word) : (s.writeCsr c v).cfg = s.cfg := by
  cases c <;> rfl
@[simp] theorem State.writeCsr_x (s : State) (c : Csr) (v : Word) : (s.writeCsr c v).x = s.x := by
  cases c <;> rfl
@[simp] theorem State.writeCsr_f (s : State) (c : Csr) (v : Word) : (s.writeCsr c v).f = s.f := by
  cases c <;> rfl
@[simp] theorem State.writeCsr_pc (s : State) (c : Csr) (v : Word) : (s.writeCsr c v).pc = s.pc := by
  cases c <;> rfl
@[simp] theorem State.writeCsr_irqPending (s : State) (c : Csr) (v : Word) : (s.writeCsr c v).irqPending = s.irqPending := by
  cases c <;> rfl
@[simp] theorem State.writeCsr_reservation (s : State) (c : Csr) (v : Word) : (s.writeCsr c v).reservation = s.reservation := by
  cases c <;> rfl
@[simp] theorem State.writeCsr_mem (s : State) (c : Csr) (v : Word) : (s.writeCsr c v).mem = s.mem := by
  cases c <;> rfl
@[simp] theorem State.writeCsr_stale (s : State) (c : Csr) (v : Word) : (s.writeCsr c v).stale = s.stale := by
  cases c <;> rfl
@[simp] theorem State.writeCsr_ioTrace (s : State) (c : Csr) (v : Word) : (s.writeCsr c v).ioTrace = s.ioTrace := by
  cases c <;> rfl
@[simp] theorem State.writeCsr_idle (s : State) (c : Csr) (v : Word) : (s.writeCsr c v).idle = s.idle := by
  cases c <;> rfl
@[simp] theorem State.writeCsr_irqInputs (s : State) (c : Csr) (v : Word) : (s.writeCsr c v).irqInputs = s.irqInputs := by
  cases c <;> rfl
@[simp] theorem State.writeCsr_tick (s : State) (c : Csr) (v : Word) : (s.writeCsr c v).tick = s.tick := by
  cases c <;> rfl
@[simp] theorem State.writeCsr_priv (s : State) (c : Csr) (v : Word) : (s.writeCsr c v).priv = s.priv := by
  cases c <;> rfl

/-! ### The beginning of a step -/

@[simp] theorem State.sampleIrqs_cfg (s : State) : s.sampleIrqs.cfg = s.cfg := by
  unfold State.sampleIrqs; split <;> rfl
@[simp] theorem State.wake_cfg (s : State) : s.wake.cfg = s.cfg := by
  unfold State.wake; split
  · split <;> rfl
  · rfl
@[simp] theorem State.begin_cfg (s : State) : s.begin.cfg = s.cfg := by
  simp [State.begin]
@[simp] theorem State.sampleIrqs_x (s : State) : s.sampleIrqs.x = s.x := by
  unfold State.sampleIrqs; split <;> rfl
@[simp] theorem State.wake_x (s : State) : s.wake.x = s.x := by
  unfold State.wake; split
  · split <;> rfl
  · rfl
@[simp] theorem State.begin_x (s : State) : s.begin.x = s.x := by
  simp [State.begin]
@[simp] theorem State.sampleIrqs_f (s : State) : s.sampleIrqs.f = s.f := by
  unfold State.sampleIrqs; split <;> rfl
@[simp] theorem State.wake_f (s : State) : s.wake.f = s.f := by
  unfold State.wake; split
  · split <;> rfl
  · rfl
@[simp] theorem State.begin_f (s : State) : s.begin.f = s.f := by
  simp [State.begin]
@[simp] theorem State.sampleIrqs_priv (s : State) : s.sampleIrqs.priv = s.priv := by
  unfold State.sampleIrqs; split <;> rfl
@[simp] theorem State.wake_priv (s : State) : s.wake.priv = s.priv := by
  unfold State.wake; split
  · split <;> rfl
  · rfl
@[simp] theorem State.begin_priv (s : State) : s.begin.priv = s.priv := by
  simp [State.begin]
@[simp] theorem State.sampleIrqs_mie (s : State) : s.sampleIrqs.mie = s.mie := by
  unfold State.sampleIrqs; split <;> rfl
@[simp] theorem State.wake_mie (s : State) : s.wake.mie = s.mie := by
  unfold State.wake; split
  · split <;> rfl
  · rfl
@[simp] theorem State.begin_mie (s : State) : s.begin.mie = s.mie := by
  simp [State.begin]
@[simp] theorem State.sampleIrqs_mpie (s : State) : s.sampleIrqs.mpie = s.mpie := by
  unfold State.sampleIrqs; split <;> rfl
@[simp] theorem State.wake_mpie (s : State) : s.wake.mpie = s.mpie := by
  unfold State.wake; split
  · split <;> rfl
  · rfl
@[simp] theorem State.begin_mpie (s : State) : s.begin.mpie = s.mpie := by
  simp [State.begin]
@[simp] theorem State.sampleIrqs_mpp (s : State) : s.sampleIrqs.mpp = s.mpp := by
  unfold State.sampleIrqs; split <;> rfl
@[simp] theorem State.wake_mpp (s : State) : s.wake.mpp = s.mpp := by
  unfold State.wake; split
  · split <;> rfl
  · rfl
@[simp] theorem State.begin_mpp (s : State) : s.begin.mpp = s.mpp := by
  simp [State.begin]
@[simp] theorem State.sampleIrqs_sie (s : State) : s.sampleIrqs.sie = s.sie := by
  unfold State.sampleIrqs; split <;> rfl
@[simp] theorem State.wake_sie (s : State) : s.wake.sie = s.sie := by
  unfold State.wake; split
  · split <;> rfl
  · rfl
@[simp] theorem State.begin_sie (s : State) : s.begin.sie = s.sie := by
  simp [State.begin]
@[simp] theorem State.sampleIrqs_spie (s : State) : s.sampleIrqs.spie = s.spie := by
  unfold State.sampleIrqs; split <;> rfl
@[simp] theorem State.wake_spie (s : State) : s.wake.spie = s.spie := by
  unfold State.wake; split
  · split <;> rfl
  · rfl
@[simp] theorem State.begin_spie (s : State) : s.begin.spie = s.spie := by
  simp [State.begin]
@[simp] theorem State.sampleIrqs_spp (s : State) : s.sampleIrqs.spp = s.spp := by
  unfold State.sampleIrqs; split <;> rfl
@[simp] theorem State.wake_spp (s : State) : s.wake.spp = s.spp := by
  unfold State.wake; split
  · split <;> rfl
  · rfl
@[simp] theorem State.begin_spp (s : State) : s.begin.spp = s.spp := by
  simp [State.begin]
@[simp] theorem State.sampleIrqs_mepc (s : State) : s.sampleIrqs.mepc = s.mepc := by
  unfold State.sampleIrqs; split <;> rfl
@[simp] theorem State.wake_mepc (s : State) : s.wake.mepc = s.mepc := by
  unfold State.wake; split
  · split <;> rfl
  · rfl
@[simp] theorem State.begin_mepc (s : State) : s.begin.mepc = s.mepc := by
  simp [State.begin]
@[simp] theorem State.sampleIrqs_sepc (s : State) : s.sampleIrqs.sepc = s.sepc := by
  unfold State.sampleIrqs; split <;> rfl
@[simp] theorem State.wake_sepc (s : State) : s.wake.sepc = s.sepc := by
  unfold State.wake; split
  · split <;> rfl
  · rfl
@[simp] theorem State.begin_sepc (s : State) : s.begin.sepc = s.sepc := by
  simp [State.begin]
@[simp] theorem State.sampleIrqs_fcsr (s : State) : s.sampleIrqs.fcsr = s.fcsr := by
  unfold State.sampleIrqs; split <;> rfl
@[simp] theorem State.wake_fcsr (s : State) : s.wake.fcsr = s.fcsr := by
  unfold State.wake; split
  · split <;> rfl
  · rfl
@[simp] theorem State.begin_fcsr (s : State) : s.begin.fcsr = s.fcsr := by
  simp [State.begin]
@[simp] theorem State.sampleIrqs_mtvec (s : State) : s.sampleIrqs.mtvec = s.mtvec := by
  unfold State.sampleIrqs; split <;> rfl
@[simp] theorem State.wake_mtvec (s : State) : s.wake.mtvec = s.mtvec := by
  unfold State.wake; split
  · split <;> rfl
  · rfl
@[simp] theorem State.begin_mtvec (s : State) : s.begin.mtvec = s.mtvec := by
  simp [State.begin]
@[simp] theorem State.sampleIrqs_mcause (s : State) : s.sampleIrqs.mcause = s.mcause := by
  unfold State.sampleIrqs; split <;> rfl
@[simp] theorem State.wake_mcause (s : State) : s.wake.mcause = s.mcause := by
  unfold State.wake; split
  · split <;> rfl
  · rfl
@[simp] theorem State.begin_mcause (s : State) : s.begin.mcause = s.mcause := by
  simp [State.begin]
@[simp] theorem State.sampleIrqs_mtval (s : State) : s.sampleIrqs.mtval = s.mtval := by
  unfold State.sampleIrqs; split <;> rfl
@[simp] theorem State.wake_mtval (s : State) : s.wake.mtval = s.mtval := by
  unfold State.wake; split
  · split <;> rfl
  · rfl
@[simp] theorem State.begin_mtval (s : State) : s.begin.mtval = s.mtval := by
  simp [State.begin]
@[simp] theorem State.sampleIrqs_mscratch (s : State) : s.sampleIrqs.mscratch = s.mscratch := by
  unfold State.sampleIrqs; split <;> rfl
@[simp] theorem State.wake_mscratch (s : State) : s.wake.mscratch = s.mscratch := by
  unfold State.wake; split
  · split <;> rfl
  · rfl
@[simp] theorem State.begin_mscratch (s : State) : s.begin.mscratch = s.mscratch := by
  simp [State.begin]
@[simp] theorem State.sampleIrqs_irqEnable (s : State) : s.sampleIrqs.irqEnable = s.irqEnable := by
  unfold State.sampleIrqs; split <;> rfl
@[simp] theorem State.wake_irqEnable (s : State) : s.wake.irqEnable = s.irqEnable := by
  unfold State.wake; split
  · split <;> rfl
  · rfl
@[simp] theorem State.begin_irqEnable (s : State) : s.begin.irqEnable = s.irqEnable := by
  simp [State.begin]
@[simp] theorem State.sampleIrqs_reservation (s : State) : s.sampleIrqs.reservation = s.reservation := by
  unfold State.sampleIrqs; split <;> rfl
@[simp] theorem State.wake_reservation (s : State) : s.wake.reservation = s.reservation := by
  unfold State.wake; split
  · split <;> rfl
  · rfl
@[simp] theorem State.begin_reservation (s : State) : s.begin.reservation = s.reservation := by
  simp [State.begin]
@[simp] theorem State.sampleIrqs_mem (s : State) : s.sampleIrqs.mem = s.mem := by
  unfold State.sampleIrqs; split <;> rfl
@[simp] theorem State.wake_mem (s : State) : s.wake.mem = s.mem := by
  unfold State.wake; split
  · split <;> rfl
  · rfl
@[simp] theorem State.begin_mem (s : State) : s.begin.mem = s.mem := by
  simp [State.begin]
@[simp] theorem State.sampleIrqs_stale (s : State) : s.sampleIrqs.stale = s.stale := by
  unfold State.sampleIrqs; split <;> rfl
@[simp] theorem State.wake_stale (s : State) : s.wake.stale = s.stale := by
  unfold State.wake; split
  · split <;> rfl
  · rfl
@[simp] theorem State.begin_stale (s : State) : s.begin.stale = s.stale := by
  simp [State.begin]
@[simp] theorem State.sampleIrqs_ioTrace (s : State) : s.sampleIrqs.ioTrace = s.ioTrace := by
  unfold State.sampleIrqs; split <;> rfl
@[simp] theorem State.wake_ioTrace (s : State) : s.wake.ioTrace = s.ioTrace := by
  unfold State.wake; split
  · split <;> rfl
  · rfl
@[simp] theorem State.begin_ioTrace (s : State) : s.begin.ioTrace = s.ioTrace := by
  simp [State.begin]

/-- Waking, whole: of a hart that is not idle nothing changes, and of an idle one the idle state and, when the step
takes an interrupt, the pc. -/
theorem State.wake_cases (s : State) :
    (s.idle = false ∧ s.wake = s) ∨
    (s.idle = true ∧ s.irqToTake = none ∧ s.wake = { s with idle := false }) ∨
    ∃ i, s.idle = true ∧ s.irqToTake = some i ∧ s.wake = { s with idle := false }.advance 4#64 := by
  unfold State.wake
  cases s.idle with
  | false => exact .inl ⟨rfl, rfl⟩
  | true =>
    cases s.irqToTake with
    | none => exact .inr (.inl ⟨rfl, rfl, rfl⟩)
    | some i => exact .inr (.inr ⟨i, rfl, rfl, rfl⟩)

/-- Waking does not change which interrupt the step takes. -/
@[simp] theorem State.irqToTake_wake (s : State) : s.wake.irqToTake = s.irqToTake := by
  rcases s.wake_cases with ⟨-, h⟩ | ⟨-, -, h⟩ | ⟨i, -, -, h⟩ <;> rw [h] <;> rfl

/-- Sampling, whole: under TRAP = machine the next of the inputs becomes the pending bits; otherwise nothing
changes. -/
theorem State.sampleIrqs_cases (s : State) :
    ((s.cfg.trap = .halt ∨ s.irqInputs = []) ∧ s.sampleIrqs = s) ∨
    ∃ b rest, s.cfg.trap = .machine ∧ s.irqInputs = b :: rest ∧
      s.sampleIrqs = { s with irqPending := b, irqInputs := rest } := by
  unfold State.sampleIrqs
  cases ht : s.cfg.trap with
  | halt => exact .inl ⟨.inl rfl, rfl⟩
  | machine =>
    cases hi : s.irqInputs with
    | nil => exact .inl ⟨.inr rfl, rfl⟩
    | cons b rest => exact .inr ⟨b, rest, rfl, rfl, rfl⟩

/-- What a step answers. -/
theorem step_cases (s : State) :
    (∃ i, s.begin.irqToTake = some i ∧ step s = .next (s.begin.takeIrq i)) ∨
    (s.begin.irqToTake = none ∧ ∃ e, s.begin.fetchInstr = .error e ∧ step s = s.begin.raise e) ∨
    (s.begin.irqToTake = none ∧ ∃ i, s.begin.fetchInstr = .ok i ∧ step s = exec i s.begin) := by
  unfold step
  cases s.begin.irqToTake with
  | some i => exact .inl ⟨i, rfl, rfl⟩
  | none =>
    refine .inr ?_
    cases s.begin.fetchInstr with
    | error e => exact .inl ⟨rfl, e, rfl, rfl⟩
    | ok i => exact .inr ⟨rfl, i, rfl, rfl⟩

end Sys2Proof.Machine
end

