-- ==== Sys2Proof/Tests/Slice0.lean ====
section
/-! SUPPORT. Tests: ill-formed terms that WellFormed refuses, one written-out word of every instruction, single steps
with the values that the spec's own vectors give (95_test_vectors.md, 96_test_vectors_fp.md), and, for every statement
of Certificates/Slice0/Obligations.lean that has hypotheses, states and operands that meet them. -/

namespace Sys2Proof.Tests

open Sys2Proof Sys2Proof.Machine

set_option Elab.async false

/-! ### The machines and states that the tests start from -/

/-- The conventions of 95_test_vectors.md: TRAP = halt, only M, ram below 0x10000, no spurious failure. -/
def cfg64 : Config :=
  { Config.reset with modes := .m, trap := .halt, scFail := .never, memmap := [⟨0, 0x10000, .ram⟩] }

/-- The same with XLEN = 32. -/
def cfg32 : Config := { cfg64 with xlen := .rv32 }

/-- TRAP = machine, three modes, a device above ram, and nothing above the device. -/
def full : Config := { Config.reset with memmap := [⟨0, 0x10000, .ram⟩, ⟨0x10000, 0x100, .io⟩] }

/-- A machine with every extension off, XLEN = 32. -/
def bare : Config := { cfg32 with m := false, a := false, c := false, fp := .none }

/-- A state at pc 0x100 with some registers. -/
def start (cfg : Config) (xs : List (Reg × Word)) : State :=
  xs.foldl (fun s p => s.setX p.1 p.2) { State.reset with cfg := cfg, pc := 0x100, fcsr := 0 }

/-- The state with some `f` registers. -/
def withF (fs : List (Reg × Word)) (s : State) : State := fs.foldl (fun s p => s.setF p.1 p.2) s

/-- The state with eight bytes of memory. -/
def withMem (a v : Word) (s : State) : State :=
  s.placeBytes a 0 ((List.range 8).map fun i => v.extractLsb' (8 * i) 8)

/-- The memory of 95_test_vectors.md, section 2.4. -/
def bytes (s : State) : State := withMem 0x1000 0xFFEEDDCCBBAA9988 s

/-- The memory of 95_test_vectors.md, section 2.7. -/
def word (s : State) : State := withMem 0x1000 0x180000005 s

/-- The state with a reservation. -/
def withReservation (a : Word) (n : Nat) (s : State) : State := { s with reservation := some ⟨a, n⟩ }

/-- The state in user mode. -/
def inUser (s : State) : State := { s with priv := .user }

/-- Whether an outcome is a next state that passes a check. -/
def gives (o : Outcome) (ok : State → Bool) : Bool :=
  match o with
  | .next t => ok t
  | .fault _ => false
  | .refused _ => false

/-- Whether a step from the state, with the word at its pc, gives a state that passes the check. -/
def runs (s : State) (w : Nat) (ok : State → Bool) : Bool := gives (step (s.withFetchWord 32 w)) ok

/-- Whether that step ends the run with the exception. -/
def stops (s : State) (w : Nat) (e : Exc) : Bool :=
  match step (s.withFetchWord 32 w) with
  | .fault (.trapped e' pc) => e' == e && pc == s.pc
  | .next _ => false
  | .refused _ => false

/-- Whether every word decodes to its instruction. -/
def decodes (cfg : Config) (ws : List (Code × Instr)) : Bool :=
  ws.all fun p =>
    match decodeCode cfg p.1 with
    | .ok i => i == p.2
    | .error _ => false

/-- Whether a word is no instruction of the machine. -/
def refuses (cfg : Config) (c : Code) : Bool :=
  match decodeCode cfg c with
  | .ok _ => false
  | .error _ => true

/-- Whether every instruction has the expansion, for XLEN = 64. -/
def expandsTo (l : List (Instr × List Instr)) : Bool := l.all fun p => p.1.expand .rv64 == p.2

/-- An outcome that gives some state is a next state. -/
theorem next_of_gives {o : Outcome} {ok : State → Bool} (h : gives o ok = true) : ∃ t, o = .next t ∧ ok t = true := by
  cases o with
  | next t => exact ⟨t, rfl, h⟩
  | fault r => cases h
  | refused r => cases h

/-! ### WellFormed refuses an ill-formed term, one for each check (R141, R144, R145, 30_encoding.md) -/

theorem test_wf_extension_m : (Instr.mul 1 2 3).wf bare = false := by decide
theorem test_wf_extension_a : (Instr.lr_w 1 2 0 0).wf bare = false := by decide
theorem test_wf_extension_f : (Instr.fadd_s 1 2 3 .rne).wf bare = false := by decide
theorem test_wf_extension_d : (Instr.fadd_d 1 2 3 .rne).wf { cfg64 with fp := .f } = false := by decide
theorem test_wf_extension_c : (Instr.c_mv 1 2).wf bare = false := by decide
theorem test_wf_extension_f_and_c : (Instr.c_flw 1 2 3).wf { cfg32 with c := false } = false := by decide
theorem test_wf_extension_d_and_c : (Instr.c_fld 1 2 3).wf { cfg32 with fp := .f } = false := by decide
theorem test_wf_mode_s : Instr.sret.wf cfg64 = false := by decide
theorem test_wf_width_64 : (Instr.addw 1 2 3).wf cfg32 = false := by decide
theorem test_wf_width_32 : (Instr.c_jal 4).wf cfg64 = false := by decide
theorem test_wf_shift_amount : (Instr.slli 1 2 32).wf cfg32 = false ∧ (Instr.srli 1 2 32).wf cfg32 = false ∧
    (Instr.srai 1 2 32).wf cfg32 = false := by decide
theorem test_wf_compressed_shift_amount : (Instr.c_slli 1 32).wf cfg32 = false ∧
    (Instr.c_srli 1 32).wf cfg32 = false ∧ (Instr.c_srai 1 32).wf cfg32 = false := by decide
theorem test_wf_addi4spn_zero : (Instr.c_addi4spn 1 0).wf cfg64 = false := by decide
theorem test_wf_addi16sp_zero : (Instr.c_addi16sp 0).wf cfg64 = false := by decide
theorem test_wf_addiw_rd : (Instr.c_addiw 0 1).wf cfg64 = false := by decide
theorem test_wf_lui_rd_and_zero : (Instr.c_lui 2 1).wf cfg64 = false ∧ (Instr.c_lui 1 0).wf cfg64 = false := by
  decide
theorem test_wf_stack_load_rd : (Instr.c_lwsp 0 1).wf cfg64 = false ∧ (Instr.c_ldsp 0 1).wf cfg64 = false := by
  decide
theorem test_wf_jump_register : (Instr.c_jr 0).wf cfg64 = false ∧ (Instr.c_jalr 0).wf cfg64 = false := by decide
theorem test_wf_mv_source : (Instr.c_mv 1 0).wf cfg64 = false := by decide
theorem test_wf_add_registers : (Instr.c_add 0 1).wf cfg64 = false ∧ (Instr.c_add 1 0).wf cfg64 = false := by decide
theorem test_wf_li_width : (Instr.li 1 0x100000000).wf cfg32 = false := by decide
theorem test_config_wf_reset_pc_width : Config.wf { cfg32 with resetPc := 0x100000000 } = false := by decide
theorem test_config_wf_reset_pc_alignment : Config.wf { bare with resetPc := 0x102 } = false ∧
    Config.wf { cfg32 with resetPc := 0x102 } = true ∧ Config.wf { cfg32 with resetPc := 0x101 } = false := by decide
theorem test_config_wf_granule : Config.wf { cfg64 with granule := some 7 } = false ∧
    Config.wf { cfg64 with granule := some 12 } = true ∧ Config.wf { cfg32 with granule := some 4 } = true := by
  decide
theorem test_wf_accepts : (Instr.slli 1 2 63).wf cfg64 = true ∧ (Instr.c_lui 1 63).wf cfg64 = true ∧
    (Instr.li 1 0xFFFFFFFF80000000).wf cfg32 = true ∧ (Instr.c_jal 4).wf cfg32 = true := by decide

/-! ### Decoding: one word of every instruction, its fields written out as the encoding of 30_encoding.md
(R133, R134) orders them -/

theorem test_decode_rvi_compute_64_1 : decodes Config.reset [
    (.word 0b0000000_01010_10001_000_00011_0110011#32, .add 3 17 10),
    (.word 0b0100000_10101_00001_000_11111_0110011#32, .sub 31 1 21),
    (.word 0b0000000_00111_11110_001_01001_0110011#32, .sll 9 30 7),
    (.word 0b0000000_11100_01100_010_10100_0110011#32, .slt 20 12 28),
    (.word 0b0000000_01010_10001_011_00011_0110011#32, .sltu 3 17 10),
    (.word 0b0000000_10101_00001_100_11111_0110011#32, .xor 31 1 21),
    (.word 0b0000000_00111_11110_101_01001_0110011#32, .srl 9 30 7),
    (.word 0b0100000_11100_01100_101_10100_0110011#32, .sra 20 12 28),
    (.word 0b0000000_01010_10001_110_00011_0110011#32, .or 3 17 10),
    (.word 0b0000000_10101_00001_111_11111_0110011#32, .and 31 1 21),
    (.word 0b111100111101_11110_000_01001_0010011#32, .addi 9 30 3901),
    (.word 0b110111011011_01100_010_10100_0010011#32, .slti 20 12 3547),
    (.word 0b100011110101_10001_011_00011_0010011#32, .sltiu 3 17 2293),
    (.word 0b110110110101_00001_100_11111_0010011#32, .xori 31 1 3509)] = true := by decide +kernel

theorem test_decode_rvi_compute_64_2 : decodes Config.reset [
    (.word 0b111011001001_11110_110_01001_0010011#32, .ori 9 30 3785),
    (.word 0b110001111111_01100_111_10100_0010011#32, .andi 20 12 3199),
    (.word 0b000000_100101_10001_001_00011_0010011#32, .slli 3 17 37),
    (.word 0b000000_000011_00001_101_11111_0010011#32, .srli 31 1 3),
    (.word 0b010000_100101_11110_101_01001_0010011#32, .srai 9 30 37),
    (.word 0b01110111001101001101_10100_0110111#32, .lui 20 488269),
    (.word 0b11110011101010110101_00011_0010111#32, .auipc 3 998069),
    (.word 0b0000000_10101_00001_000_11111_0111011#32, .addw 31 1 21),
    (.word 0b0100000_00111_11110_000_01001_0111011#32, .subw 9 30 7),
    (.word 0b0000000_11100_01100_001_10100_0111011#32, .sllw 20 12 28),
    (.word 0b0000000_01010_10001_101_00011_0111011#32, .srlw 3 17 10),
    (.word 0b0100000_10101_00001_101_11111_0111011#32, .sraw 31 1 21),
    (.word 0b100000100001_11110_000_01001_0011011#32, .addiw 9 30 2081),
    (.word 0b000000_0_00011_01100_001_10100_0011011#32, .slliw 20 12 3)] = true := by decide +kernel

theorem test_decode_rvi_compute_64_3 : decodes Config.reset [
    (.word 0b000000_0_10101_10001_101_00011_0011011#32, .srliw 3 17 21),
    (.word 0b010000_0_00011_00001_101_11111_0011011#32, .sraiw 31 1 3)] = true := by decide +kernel

theorem test_decode_rvi_control_mem_64_1 : decodes Config.reset [
    (.word 0b1011010_00111_11110_000_11111_1100011#32, .beq 30 7 3503),
    (.word 0b1010110_11100_01100_001_01010_1100011#32, .bne 12 28 2405),
    (.word 0b1110000_01010_10001_100_10010_1100011#32, .blt 17 10 2825),
    (.word 0b0101111_10101_00001_101_01010_1100011#32, .bge 1 21 757),
    (.word 0b1001101_00111_11110_110_11011_1100011#32, .bltu 30 7 3293),
    (.word 0b1000011_11100_01100_111_00010_1100011#32, .bgeu 12 28 2097),
    (.word 0b10010111001111110011_00011_1101111#32, .jal 3 1023161),
    (.word 0b101000010011_00001_000_11111_1100111#32, .jalr 31 1 2579),
    (.word 0b100111010011_11110_000_01001_0000011#32, .lb 9 30 2515),
    (.word 0b110010110001_01100_001_10100_0000011#32, .lh 20 12 3249),
    (.word 0b101011111011_10001_010_00011_0000011#32, .lw 3 17 2811),
    (.word 0b000110000001_00001_011_11111_0000011#32, .ld 31 1 385),
    (.word 0b111100100101_11110_100_01001_0000011#32, .lbu 9 30 3877),
    (.word 0b010011011011_01100_101_10100_0000011#32, .lhu 20 12 1243)] = true := by decide +kernel

theorem test_decode_rvi_control_mem_64_2 : decodes Config.reset [
    (.word 0b101001000101_10001_110_00011_0000011#32, .lwu 3 17 2629),
    (.word 0b0001011_10101_00001_000_10011_0100011#32, .sb 1 21 371),
    (.word 0b1000100_00111_11110_001_11111_0100011#32, .sh 30 7 2207),
    (.word 0b1100111_11100_01100_010_10101_0100011#32, .sw 12 28 3317),
    (.word 0b1110001_01010_10001_011_11111_0100011#32, .sd 17 10 3647),
    (.word 0b0000_0010_0011_00000_000_00000_0001111#32, .fence 2 3),
    (.word 0b000000000000_00000_001_00000_0001111#32, .fence_i)] = true := by decide +kernel

theorem test_decode_system_64 : decodes Config.reset [
    (.word 0b001101000001_01100_001_10100_1110011#32, .csrrw 20 833 12),
    (.word 0b001101000001_10001_010_00011_1110011#32, .csrrs 3 833 17),
    (.word 0b001101000001_00001_011_11111_1110011#32, .csrrc 31 833 1),
    (.word 0b001101000001_10011_101_01001_1110011#32, .csrrwi 9 833 19),
    (.word 0b001101000001_10011_110_10100_1110011#32, .csrrsi 20 833 19),
    (.word 0b001101000001_10011_111_00011_1110011#32, .csrrci 3 833 19),
    (.word 0b000000000000_00000_000_00000_1110011#32, .ecall),
    (.word 0b000000000001_00000_000_00000_1110011#32, .ebreak),
    (.word 0b0011000_00010_00000_000_00000_1110011#32, .mret),
    (.word 0b0001000_00010_00000_000_00000_1110011#32, .sret),
    (.word 0b0001000_00101_00000_000_00000_1110011#32, .wfi),
    (.word 0b0001001_00111_11110_000_00000_1110011#32, .sfence_vma 30 7)] = true := by decide +kernel

theorem test_decode_rvm_64 : decodes Config.reset [
    (.word 0b0000001_11100_01100_000_10100_0110011#32, .mul 20 12 28),
    (.word 0b0000001_01010_10001_001_00011_0110011#32, .mulh 3 17 10),
    (.word 0b0000001_10101_00001_010_11111_0110011#32, .mulhsu 31 1 21),
    (.word 0b0000001_00111_11110_011_01001_0110011#32, .mulhu 9 30 7),
    (.word 0b0000001_11100_01100_100_10100_0110011#32, .div 20 12 28),
    (.word 0b0000001_01010_10001_101_00011_0110011#32, .divu 3 17 10),
    (.word 0b0000001_10101_00001_110_11111_0110011#32, .rem 31 1 21),
    (.word 0b0000001_00111_11110_111_01001_0110011#32, .remu 9 30 7),
    (.word 0b0000001_11100_01100_000_10100_0111011#32, .mulw 20 12 28),
    (.word 0b0000001_01010_10001_100_00011_0111011#32, .divw 3 17 10),
    (.word 0b0000001_10101_00001_101_11111_0111011#32, .divuw 31 1 21),
    (.word 0b0000001_00111_11110_110_01001_0111011#32, .remw 9 30 7),
    (.word 0b0000001_11100_01100_111_10100_0111011#32, .remuw 20 12 28)] = true := by decide +kernel

theorem test_decode_rva_64_1 : decodes Config.reset [
    (.word 0b00010_0_1_00000_10001_010_00011_0101111#32, .lr_w 3 17 0 1),
    (.word 0b00010_1_0_00000_00001_011_11111_0101111#32, .lr_d 31 1 1 0),
    (.word 0b00011_0_1_00111_11110_010_01001_0101111#32, .sc_w 9 30 7 0 1),
    (.word 0b00011_1_0_11100_01100_011_10100_0101111#32, .sc_d 20 12 28 1 0),
    (.word 0b00001_0_1_01010_10001_010_00011_0101111#32, .amoswap_w 3 17 10 0 1),
    (.word 0b00001_1_0_10101_00001_011_11111_0101111#32, .amoswap_d 31 1 21 1 0),
    (.word 0b00000_0_1_00111_11110_010_01001_0101111#32, .amoadd_w 9 30 7 0 1),
    (.word 0b00000_1_0_11100_01100_011_10100_0101111#32, .amoadd_d 20 12 28 1 0),
    (.word 0b00100_0_1_01010_10001_010_00011_0101111#32, .amoxor_w 3 17 10 0 1),
    (.word 0b00100_1_0_10101_00001_011_11111_0101111#32, .amoxor_d 31 1 21 1 0),
    (.word 0b01100_0_1_00111_11110_010_01001_0101111#32, .amoand_w 9 30 7 0 1),
    (.word 0b01100_1_0_11100_01100_011_10100_0101111#32, .amoand_d 20 12 28 1 0),
    (.word 0b01000_0_1_01010_10001_010_00011_0101111#32, .amoor_w 3 17 10 0 1),
    (.word 0b01000_1_0_10101_00001_011_11111_0101111#32, .amoor_d 31 1 21 1 0)] = true := by decide +kernel

theorem test_decode_rva_64_2 : decodes Config.reset [
    (.word 0b10000_0_1_00111_11110_010_01001_0101111#32, .amomin_w 9 30 7 0 1),
    (.word 0b10000_1_0_11100_01100_011_10100_0101111#32, .amomin_d 20 12 28 1 0),
    (.word 0b10100_0_1_01010_10001_010_00011_0101111#32, .amomax_w 3 17 10 0 1),
    (.word 0b10100_1_0_10101_00001_011_11111_0101111#32, .amomax_d 31 1 21 1 0),
    (.word 0b11000_0_1_00111_11110_010_01001_0101111#32, .amominu_w 9 30 7 0 1),
    (.word 0b11000_1_0_11100_01100_011_10100_0101111#32, .amominu_d 20 12 28 1 0),
    (.word 0b11100_0_1_01010_10001_010_00011_0101111#32, .amomaxu_w 3 17 10 0 1),
    (.word 0b11100_1_0_10101_00001_011_11111_0101111#32, .amomaxu_d 31 1 21 1 0)] = true := by decide +kernel

theorem test_decode_rvf_64_1 : decodes Config.reset [
    (.word 0b101100011001_11110_010_01001_0000111#32, .flw 9 30 2841),
    (.word 0b1010001_11100_01100_010_00111_0100111#32, .fsw 12 28 2599),
    (.word 0b11001_00_01010_10001_100_00011_1000011#32, .fmadd_s 3 17 10 25 .rmm),
    (.word 0b01110_00_10101_00001_111_11111_1000111#32, .fmsub_s 31 1 21 14 .dyn),
    (.word 0b00110_00_00111_11110_000_01001_1001011#32, .fnmsub_s 9 30 7 6 .rne),
    (.word 0b10011_00_11100_01100_001_10100_1001111#32, .fnmadd_s 20 12 28 19 .rtz),
    (.word 0b0000000_01010_10001_010_00011_1010011#32, .fadd_s 3 17 10 .rdn),
    (.word 0b0000100_10101_00001_011_11111_1010011#32, .fsub_s 31 1 21 .rup),
    (.word 0b0001000_00111_11110_100_01001_1010011#32, .fmul_s 9 30 7 .rmm),
    (.word 0b0001100_11100_01100_111_10100_1010011#32, .fdiv_s 20 12 28 .dyn),
    (.word 0b0101100_00000_10001_000_00011_1010011#32, .fsqrt_s 3 17 .rne),
    (.word 0b0010000_10101_00001_000_11111_1010011#32, .fsgnj_s 31 1 21),
    (.word 0b0010000_00111_11110_001_01001_1010011#32, .fsgnjn_s 9 30 7),
    (.word 0b0010000_11100_01100_010_10100_1010011#32, .fsgnjx_s 20 12 28)] = true := by decide +kernel

theorem test_decode_rvf_64_2 : decodes Config.reset [
    (.word 0b0010100_01010_10001_000_00011_1010011#32, .fmin_s 3 17 10),
    (.word 0b0010100_10101_00001_001_11111_1010011#32, .fmax_s 31 1 21),
    (.word 0b1010000_00111_11110_010_01001_1010011#32, .feq_s 9 30 7),
    (.word 0b1010000_11100_01100_001_10100_1010011#32, .flt_s 20 12 28),
    (.word 0b1010000_01010_10001_000_00011_1010011#32, .fle_s 3 17 10),
    (.word 0b1110000_00000_00001_001_11111_1010011#32, .fclass_s 31 1),
    (.word 0b1100000_00000_11110_100_01001_1010011#32, .fcvt_w_s 9 30 .rmm),
    (.word 0b1101000_00000_01100_111_10100_1010011#32, .fcvt_s_w 20 12 .dyn),
    (.word 0b1100000_00001_10001_000_00011_1010011#32, .fcvt_wu_s 3 17 .rne),
    (.word 0b1101000_00001_00001_001_11111_1010011#32, .fcvt_s_wu 31 1 .rtz),
    (.word 0b1100000_00010_11110_010_01001_1010011#32, .fcvt_l_s 9 30 .rdn),
    (.word 0b1101000_00010_01100_011_10100_1010011#32, .fcvt_s_l 20 12 .rup),
    (.word 0b1100000_00011_10001_100_00011_1010011#32, .fcvt_lu_s 3 17 .rmm),
    (.word 0b1101000_00011_00001_111_11111_1010011#32, .fcvt_s_lu 31 1 .dyn)] = true := by decide +kernel

theorem test_decode_rvf_64_3 : decodes Config.reset [
    (.word 0b1110000_00000_11110_000_01001_1010011#32, .fmv_x_w 9 30),
    (.word 0b1111000_00000_01100_000_10100_1010011#32, .fmv_w_x 20 12)] = true := by decide +kernel

theorem test_decode_rvd_64_1 : decodes Config.reset [
    (.word 0b100010101011_10001_011_00011_0000111#32, .fld 3 17 2219),
    (.word 0b1001100_10101_00001_011_00111_0100111#32, .fsd 1 21 2439),
    (.word 0b00110_01_00111_11110_100_01001_1000011#32, .fmadd_d 9 30 7 6 .rmm),
    (.word 0b10011_01_11100_01100_111_10100_1000111#32, .fmsub_d 20 12 28 19 .dyn),
    (.word 0b11001_01_01010_10001_000_00011_1001011#32, .fnmsub_d 3 17 10 25 .rne),
    (.word 0b01110_01_10101_00001_001_11111_1001111#32, .fnmadd_d 31 1 21 14 .rtz),
    (.word 0b0000001_00111_11110_010_01001_1010011#32, .fadd_d 9 30 7 .rdn),
    (.word 0b0000101_11100_01100_011_10100_1010011#32, .fsub_d 20 12 28 .rup),
    (.word 0b0001001_01010_10001_100_00011_1010011#32, .fmul_d 3 17 10 .rmm),
    (.word 0b0001101_10101_00001_111_11111_1010011#32, .fdiv_d 31 1 21 .dyn),
    (.word 0b0101101_00000_11110_000_01001_1010011#32, .fsqrt_d 9 30 .rne),
    (.word 0b0010001_11100_01100_000_10100_1010011#32, .fsgnj_d 20 12 28),
    (.word 0b0010001_01010_10001_001_00011_1010011#32, .fsgnjn_d 3 17 10),
    (.word 0b0010001_10101_00001_010_11111_1010011#32, .fsgnjx_d 31 1 21)] = true := by decide +kernel

theorem test_decode_rvd_64_2 : decodes Config.reset [
    (.word 0b0010101_00111_11110_000_01001_1010011#32, .fmin_d 9 30 7),
    (.word 0b0010101_11100_01100_001_10100_1010011#32, .fmax_d 20 12 28),
    (.word 0b1010001_01010_10001_010_00011_1010011#32, .feq_d 3 17 10),
    (.word 0b1010001_10101_00001_001_11111_1010011#32, .flt_d 31 1 21),
    (.word 0b1010001_00111_11110_000_01001_1010011#32, .fle_d 9 30 7),
    (.word 0b1110001_00000_01100_001_10100_1010011#32, .fclass_d 20 12),
    (.word 0b1100001_00000_10001_100_00011_1010011#32, .fcvt_w_d 3 17 .rmm),
    (.word 0b1101001_00000_00001_111_11111_1010011#32, .fcvt_d_w 31 1 .dyn),
    (.word 0b1100001_00001_11110_000_01001_1010011#32, .fcvt_wu_d 9 30 .rne),
    (.word 0b1101001_00001_01100_001_10100_1010011#32, .fcvt_d_wu 20 12 .rtz),
    (.word 0b1100001_00010_10001_010_00011_1010011#32, .fcvt_l_d 3 17 .rdn),
    (.word 0b1101001_00010_00001_011_11111_1010011#32, .fcvt_d_l 31 1 .rup),
    (.word 0b1100001_00011_11110_100_01001_1010011#32, .fcvt_lu_d 9 30 .rmm),
    (.word 0b1101001_00011_01100_111_10100_1010011#32, .fcvt_d_lu 20 12 .dyn)] = true := by decide +kernel

theorem test_decode_rvd_64_3 : decodes Config.reset [
    (.word 0b0100000_00001_10001_000_00011_1010011#32, .fcvt_s_d 3 17 .rne),
    (.word 0b0100001_00000_00001_001_11111_1010011#32, .fcvt_d_s 31 1 .rtz),
    (.word 0b1110001_00000_11110_000_01001_1010011#32, .fmv_x_d 9 30),
    (.word 0b1111001_00000_01100_000_10100_1010011#32, .fmv_d_x 20 12)] = true := by decide +kernel

theorem test_decode_rvc_64_1 : decodes Config.reset [
    (.half 0b000_10111111_110_00#16, .c_addi4spn 6 251),
    (.half 0b001_101_111_01_100_00#16, .c_fld 4 7 13),
    (.half 0b010_111_010_11_001_00#16, .c_lw 1 2 31),
    (.half 0b011_101_111_10_100_00#16, .c_ld 4 7 21),
    (.half 0b101_111_010_10_011_00#16, .c_fsd 2 3 23),
    (.half 0b110_001_101_11_110_00#16, .c_sw 5 6 19),
    (.half 0b111_101_010_10_011_00#16, .c_sd 2 3 21),
    (.half 0b000_1_11111_00111_01#16, .c_addi 31 39),
    (.half 0b001_1_10100_10101_01#16, .c_addiw 20 53),
    (.half 0b010_1_00011_00001_01#16, .c_li 3 33),
    (.half 0b011_0_00010_11000_01#16, .c_addi16sp 5),
    (.half 0b011_1_01001_00011_01#16, .c_lui 9 35),
    (.half 0b100_0_00_110_00011_01#16, .c_srli 6 3),
    (.half 0b100_1_01_100_01101_01#16, .c_srai 4 45)] = true := by decide +kernel

theorem test_decode_rvc_64_2 : decodes Config.reset [
    (.half 0b100_1_10_001_11001_01#16, .c_andi 1 57),
    (.half 0b100011_110_00_110_01#16, .c_sub 6 6),
    (.half 0b100011_100_01_000_01#16, .c_xor 4 0),
    (.half 0b100011_001_10_011_01#16, .c_or 1 3),
    (.half 0b100011_110_11_110_01#16, .c_and 6 6),
    (.half 0b100111_100_00_000_01#16, .c_subw 4 0),
    (.half 0b100111_001_01_011_01#16, .c_addw 1 3),
    (.half 0b101_11110111110_01#16, .c_j 1519),
    (.half 0b110_110_111_00011_01#16, .c_beqz 7 153),
    (.half 0b111_101_010_00110_01#16, .c_bnez 2 135),
    (.half 0b000_1_10100_10001_10#16, .c_slli 20 49),
    (.half 0b001_1_00011_01111_10#16, .c_fldsp 3 61),
    (.half 0b010_0_11111_10101_10#16, .c_lwsp 31 21),
    (.half 0b011_1_10100_01100_10#16, .c_ldsp 20 37)] = true := by decide +kernel

theorem test_decode_rvc_64_3 : decodes Config.reset [
    (.half 0b100_0_10001_00000_10#16, .c_jr 17),
    (.half 0b100_0_11111_10101_10#16, .c_mv 31 21),
    (.half 0b100_1_00000_00000_10#16, .c_ebreak),
    (.half 0b100_1_01100_00000_10#16, .c_jalr 12),
    (.half 0b100_1_00011_01010_10#16, .c_add 3 10),
    (.half 0b101_101110_10101_10#16, .c_fsdsp 21 53),
    (.half 0b110_110110_00111_10#16, .c_swsp 7 45),
    (.half 0b111_111101_01010_10#16, .c_sdsp 10 47)] = true := by decide +kernel

theorem test_decode_rvc_32 : decodes cfg32 [
    (.half 0b011_111_101_10_110_00#16, .c_flw 6 5 15),
    (.half 0b111_010_111_11_000_00#16, .c_fsw 7 0 21),
    (.half 0b001_11000001111_01#16, .c_jal 1055),
    (.half 0b011_1_01001_10111_10#16, .c_flwsp 9 61),
    (.half 0b111_000110_11100_10#16, .c_fswsp 28 33)] = true := by decide +kernel
/-! ### Words that are no instruction (95_test_vectors.md, section 2.1) -/

theorem test_decode_refuses : refuses cfg64 (.half 0x0000) = true ∧ refuses cfg64 (.word 0xffffffff) = true ∧
    refuses cfg32 (.word 0x02a5d513) = true ∧ refuses cfg32 (.word 0x003100bb) = true ∧
    refuses bare (.word 0x023100b3) = true ∧ refuses cfg32 (.word 0x003150d3) = true ∧
    refuses cfg32 (.word 0x101522af) = true ∧ refuses cfg32 (.word 0x0ff0008f) = true ∧
    refuses cfg32 (.word 0x00200073) = true ∧ refuses cfg32 (.half 0x8002) = true ∧
    refuses cfg32 (.half 0x6101) = true ∧ refuses cfg32 (.half 0x6081) = true ∧
    refuses cfg64 (.half 0x2001) = true ∧ refuses bare (.half 0x0001) = true ∧
    refuses cfg32 (.half 0x1002) = true ∧ refuses cfg32 (.half 0x9c01) = true ∧
    refuses cfg64 (.half 0x9c41) = true := by decide +kernel

/-! ### The expansions of the pseudoinstructions (R514, 48_pseudo.md) -/

theorem test_expansions_1 : expandsTo [
    (.beqz 6 20, [.beq 6 0 20]),
    (.bgez 6 20, [.bge 6 0 20]),
    (.bgt 6 7 20, [.blt 7 6 20]),
    (.bgtu 6 7 20, [.bltu 7 6 20]),
    (.bgtz 7 20, [.blt 0 7 20]),
    (.ble 6 7 20, [.bge 7 6 20]),
    (.bleu 6 7 20, [.bgeu 7 6 20]),
    (.blez 7 20, [.bge 0 7 20]),
    (.bltz 6 20, [.blt 6 0 20]),
    (.bnez 6 20, [.bne 6 0 20]),
    (.call 5 18 2117, [.auipc 5 18, .jalr 5 5 2117]),
    (.csrc 833 6, [.csrrc 0 833 6]),
    (.csrci 833 19, [.csrrci 0 833 19]),
    (.csrr 5 833, [.csrrs 5 833 0])] = true := by decide +kernel

theorem test_expansions_2 : expandsTo [
    (.csrs 833 6, [.csrrs 0 833 6]),
    (.csrsi 833 19, [.csrrsi 0 833 19]),
    (.csrw 833 6, [.csrrw 0 833 6]),
    (.csrwi 833 19, [.csrrwi 0 833 19]),
    (.fabs_d 5 6, [.fsgnjx_d 5 6 6]),
    (.fabs_s 5 6, [.fsgnjx_s 5 6 6]),
    (.fmv_d 5 6, [.fsgnj_d 5 6 6]),
    (.fmv_s 5 6, [.fsgnj_s 5 6 6]),
    (.fneg_d 5 6, [.fsgnjn_d 5 6 6]),
    (.fneg_s 5 6, [.fsgnjn_s 5 6 6]),
    (.frcsr 5, [.csrrs 5 3 0]),
    (.frflags 5, [.csrrs 5 1 0]),
    (.frrm 5, [.csrrs 5 2 0]),
    (.fscsr 5 6, [.csrrw 5 3 6])] = true := by decide +kernel

theorem test_expansions_3 : expandsTo [
    (.fsflags 5 6, [.csrrw 5 1 6]),
    (.fsrm 5 6, [.csrrw 5 2 6]),
    (.j 20, [.jal 0 20]),
    (.jr 6, [.jalr 0 6 0]),
    (.lla 5 18 2117, [.auipc 5 18, .addi 5 5 2117]),
    (.mv 5 6, [.addi 5 6 0]),
    (.neg 5 7, [.sub 5 0 7]),
    (.negw 5 7, [.subw 5 0 7]),
    (.nop, [.addi 0 0 0]),
    (.not 5 6, [.xori 5 6 4095]),
    (.rdcycle 5, [.csrrs 5 3072 0]),
    (.rdcycleh 5, [.csrrs 5 3200 0]),
    (.rdinstret 5, [.csrrs 5 3074 0]),
    (.rdinstreth 5, [.csrrs 5 3202 0])] = true := by decide +kernel

theorem test_expansions_4 : expandsTo [
    (.rdtime 5, [.csrrs 5 3073 0]),
    (.rdtimeh 5, [.csrrs 5 3201 0]),
    (.ret, [.jalr 0 1 0]),
    (.seqz 5 6, [.sltiu 5 6 1]),
    (.sext_w 5 6, [.addiw 5 6 0]),
    (.sgtz 5 7, [.slt 5 0 7]),
    (.sltz 5 6, [.slt 5 6 0]),
    (.snez 5 7, [.sltu 5 0 7]),
    (.tail 18 2117, [.auipc 6 18, .jalr 0 6 2117])] = true := by decide +kernel

theorem test_expansion_la : (Instr.la 5 false 2 0x804).expand .rv64 = [.auipc 5 2, .addi 5 5 0x804] ∧
    (Instr.la 5 true 2 8).expand .rv64 = [.auipc 5 2, .ld 5 5 8] ∧
    (Instr.la 5 true 2 8).expand .rv32 = [.auipc 5 2, .lw 5 5 8] := by decide +kernel

theorem test_expansion_li : (Instr.li 5 100).expand .rv32 = [.addi 5 0 100] ∧
    (Instr.li 5 0x12345FFF).expand .rv32 = [.lui 5 0x12346, .addi 5 5 0xfff] ∧
    (Instr.li 5 0x7FFFFFFF).expand .rv64 = [.lui 5 0x80000, .addiw 5 5 0xfff] := by decide +kernel
/-! ### Single steps (95_test_vectors.md, sections 2.2 to 2.10; 96_test_vectors_fp.md) -/

theorem test_step_add :
    runs (start cfg64 [(1, 0x7FFFFFFF), (2, 1)])
      0x002081b3 (fun t =>
      t.readX 3 == 0x80000000 && t.pc == 0x104) := by decide +kernel

theorem test_step_sub :
    runs (start cfg32 [(1, 0), (2, 1)])
      0x402081b3 (fun t =>
      t.readX 3 == 0xFFFFFFFF && t.pc == 0x104) := by decide +kernel

theorem test_step_sll :
    runs (start cfg64 [(1, 1), (2, 0x21)])
      0x002091b3 (fun t =>
      t.readX 3 == 0x200000000 && t.pc == 0x104) := by decide +kernel

theorem test_step_slt :
    runs (start cfg32 [(1, 0xFFFFFFFF), (2, 1)])
      0x0020a1b3 (fun t =>
      t.readX 3 == 1 && t.pc == 0x104) := by decide +kernel

theorem test_step_sltu :
    runs (start cfg32 [(1, 0xFFFFFFFF), (2, 1)])
      0x0020b1b3 (fun t =>
      t.readX 3 == 0 && t.pc == 0x104) := by decide +kernel

theorem test_step_sra :
    runs (start cfg32 [(1, 0x80000000), (2, 0x20)])
      0x4020d1b3 (fun t =>
      t.readX 3 == 0x80000000 && t.pc == 0x104) := by decide +kernel

theorem test_step_sltiu :
    runs (start cfg32 [(1, 0)])
      0x0010b193 (fun t =>
      t.readX 3 == 1 && t.pc == 0x104) := by decide +kernel

theorem test_step_lui :
    runs (start cfg32 [])
      0x123452b7 (fun t =>
      t.readX 5 == 0x12345000 && t.pc == 0x104) := by decide +kernel

theorem test_step_auipc :
    runs (start cfg32 [])
      0x00001297 (fun t =>
      t.readX 5 == 0x1100 && t.pc == 0x104) := by decide +kernel

theorem test_step_addw :
    runs (start cfg64 [(1, 0x7FFFFFFF), (2, 1)])
      0x002081bb (fun t =>
      t.readX 3 == 0xFFFFFFFF80000000 && t.pc == 0x104) := by decide +kernel

theorem test_step_sllw :
    runs (start cfg64 [(1, 1), (2, 0x3F)])
      0x002091bb (fun t =>
      t.readX 3 == 0xFFFFFFFF80000000 && t.pc == 0x104) := by decide +kernel

theorem test_step_sraw :
    runs (start cfg64 [(1, 0x80000000), (2, 4)])
      0x4020d1bb (fun t =>
      t.readX 3 == 0xFFFFFFFFF8000000 && t.pc == 0x104) := by decide +kernel

theorem test_step_srliw :
    runs (start cfg64 [(1, 0x80000000)])
      0x0000d19b (fun t =>
      t.readX 3 == 0xFFFFFFFF80000000 && t.pc == 0x104) := by decide +kernel

theorem test_step_beq :
    runs (start cfg32 [(1, 5), (2, 5)])
      0x00208863 (fun t =>
      t.pc == 0x110) := by decide +kernel

theorem test_step_blt :
    runs (start cfg32 [(1, 0xFFFFFFFF), (2, 1)])
      0x0020c463 (fun t =>
      t.pc == 0x108) := by decide +kernel

theorem test_step_bltu :
    runs (start cfg32 [(1, 0xFFFFFFFF), (2, 1)])
      0x0020e463 (fun t =>
      t.pc == 0x104) := by decide +kernel

theorem test_step_jal :
    runs (start cfg32 [])
      0x001000ef (fun t =>
      t.readX 1 == 0x104 && t.pc == 0x900) := by decide +kernel

theorem test_step_jalr :
    runs (start cfg32 [(5, 0x2001)])
      0x004280e7 (fun t =>
      t.readX 1 == 0x104 && t.pc == 0x2004) := by decide +kernel

theorem test_step_lb :
    runs (bytes (start cfg32 [(10, 0x1000)]))
      0x00050283 (fun t =>
      t.readX 5 == 0xFFFFFF88 && t.pc == 0x104) := by decide +kernel

theorem test_step_lw :
    runs (bytes (start cfg64 [(10, 0x1000)]))
      0x00052283 (fun t =>
      t.readX 5 == 0xFFFFFFFFBBAA9988 && t.pc == 0x104) := by decide +kernel

theorem test_step_lw_traps :
    stops (bytes (start cfg32 [(10, 0x1000)]))
      0x00152283 (.loadMisaligned 0x1001) := by decide +kernel

theorem test_step_ld :
    runs (bytes (start cfg64 [(10, 0x1000)]))
      0x00053283 (fun t =>
      t.readX 5 == 0xFFEEDDCCBBAA9988 && t.pc == 0x104) := by decide +kernel

theorem test_step_lhu :
    runs (bytes (start cfg64 [(10, 0x1000)]))
      0x00255283 (fun t =>
      t.readX 5 == 0xBBAA && t.pc == 0x104) := by decide +kernel

theorem test_step_lwu :
    runs (bytes (start cfg64 [(10, 0x1000)]))
      0x00056283 (fun t =>
      t.readX 5 == 0xBBAA9988 && t.pc == 0x104) := by decide +kernel

theorem test_step_sb :
    runs (bytes (start cfg32 [(10, 0x1000), (6, 0x12345678)]))
      0x006500a3 (fun t =>
      t.pc == 0x104 && t.loadBytes 0x1001 1 == 0x78) := by decide +kernel

theorem test_step_sh :
    runs (bytes (start cfg32 [(10, 0x1000), (6, 0x12345678)]))
      0x00651123 (fun t =>
      t.pc == 0x104 && t.loadBytes 0x1002 2 == 0x5678) := by decide +kernel

theorem test_step_sw :
    runs (bytes (start cfg32 [(10, 0x1000), (6, 0x12345678)]))
      0x00652223 (fun t =>
      t.pc == 0x104 && t.loadBytes 0x1004 4 == 0x12345678) := by decide +kernel

theorem test_step_sw_traps :
    stops (bytes (start cfg32 [(10, 0x1000), (6, 0x1122334455667788)]))
      0x00652123 (.storeMisaligned 0x1002) := by decide +kernel

theorem test_step_sd :
    runs (bytes (start cfg64 [(10, 0x1000), (6, 0x1122334455667788)]))
      0x00653023 (fun t =>
      t.pc == 0x104 && t.loadBytes 0x1000 8 == 0x1122334455667788) := by decide +kernel

theorem test_step_csrrw :
    runs ((start cfg32 [(6, 0x2000)]).writeCsr .mepc 0x1000)
      0x341312f3 (fun t =>
      t.readX 5 == 0x1000 && t.readCsr .mepc == 0x2000 && t.pc == 0x104) := by decide +kernel

theorem test_step_csrrw_traps :
    stops (start cfg32 [(6, 0)])
      0xc00312f3 (.illegal 0xC00312F3) := by decide +kernel

theorem test_step_csrrs :
    runs ((start cfg32 [(6, 0xF0)]).writeCsr .mepc 0x1000)
      0x341322f3 (fun t =>
      t.readX 5 == 0x1000 && t.readCsr .mepc == 0x10F0 && t.pc == 0x104) := by decide +kernel

theorem test_step_csrrc :
    runs ((start cfg32 [(6, 0x1000)]).writeCsr .mepc 0x1FF0)
      0x341332f3 (fun t =>
      t.readX 5 == 0x1FF0 && t.readCsr .mepc == 0xFF0 && t.pc == 0x104) := by decide +kernel

theorem test_step_csrrwi :
    runs ((start cfg32 []).writeCsr .mepc 0x1000)
      0x341fd2f3 (fun t =>
      t.readX 5 == 0x1000 && t.readCsr .mepc == 0x1E && t.pc == 0x104) := by decide +kernel

theorem test_step_ecall :
    stops (start cfg32 [])
      0x00000073 (.envCall .machine) := by decide +kernel

theorem test_step_ebreak :
    stops (start cfg32 [])
      0x00100073 (.breakpoint 0x100) := by decide +kernel

theorem test_step_mret :
    runs (((start ({ cfg32 with modes := .m }) []).writeCsr .mstatus 0x1880).writeCsr .mepc 0x2000)
      0x30200073 (fun t =>
      t.mstatusFields == 0x1888 && t.pc == 0x2000) := by decide +kernel

theorem test_step_mret_traps :
    stops (inUser (((start ({ cfg32 with modes := .mu }) []).writeCsr .mstatus 0).writeCsr .mepc 0x2000))
      0x30200073 (.illegal 0x30200073) := by decide +kernel

theorem test_step_mulh :
    runs (start cfg32 [(1, 0x80000000), (2, 0x80000000)])
      0x022091b3 (fun t =>
      t.readX 3 == 0x40000000 && t.pc == 0x104) := by decide +kernel

theorem test_step_mulhsu :
    runs (start cfg32 [(1, 2), (2, 0x80000000)])
      0x0220a1b3 (fun t =>
      t.readX 3 == 1 && t.pc == 0x104) := by decide +kernel

theorem test_step_mulhu :
    runs (start cfg32 [(1, 0xFFFFFFFF), (2, 0xFFFFFFFF)])
      0x0220b1b3 (fun t =>
      t.readX 3 == 0xFFFFFFFE && t.pc == 0x104) := by decide +kernel

theorem test_step_div :
    runs (start cfg32 [(1, 0xFFFFFFF9), (2, 2)])
      0x0220c1b3 (fun t =>
      t.readX 3 == 0xFFFFFFFD && t.pc == 0x104) := by decide +kernel

theorem test_step_divu :
    runs (start cfg32 [(1, 0xFFFFFFF9), (2, 2)])
      0x0220d1b3 (fun t =>
      t.readX 3 == 0x7FFFFFFC && t.pc == 0x104) := by decide +kernel

theorem test_step_rem :
    runs (start cfg32 [(1, 0xFFFFFFF9), (2, 2)])
      0x0220e1b3 (fun t =>
      t.readX 3 == 0xFFFFFFFF && t.pc == 0x104) := by decide +kernel

theorem test_step_divw :
    runs (start cfg64 [(1, 0x1234567800000009), (2, 0xFFFFFFFF00000002)])
      0x0220c1bb (fun t =>
      t.readX 3 == 4 && t.pc == 0x104) := by decide +kernel

theorem test_step_remuw :
    runs (start cfg64 [(1, 0xFFFFFFFF), (2, 0)])
      0x0220f1bb (fun t =>
      t.readX 3 == 0xFFFFFFFFFFFFFFFF && t.pc == 0x104) := by decide +kernel

theorem test_step_lr_w :
    runs (word (start cfg32 [(10, 0x1000)]))
      0x100522af (fun t =>
      t.readX 5 == 0x80000005 && t.pc == 0x104 && t.loadBytes 0x1000 4 == 0x80000005 &&
      t.reservation == some ⟨0x1000, 4⟩) := by decide +kernel

theorem test_step_lr_w_traps :
    stops (word (start cfg32 [(10, 0x1000), (11, 0x1002)]))
      0x1005a2af (.loadMisaligned 0x1002) := by decide +kernel

theorem test_step_lr_d :
    runs (withReservation 0x1004 4 (word (start cfg64 [(10, 0x1000)])))
      0x100532af (fun t =>
      t.readX 5 == 0x180000005 && t.pc == 0x104 && t.loadBytes 0x1000 8 == 0x180000005 &&
      t.reservation == some ⟨0x1000, 8⟩) := by decide +kernel

theorem test_step_sc_w :
    runs (withReservation 0x1000 4 (word (start cfg32 [(10, 0x1000), (7, 0x77)])))
      0x1875232f (fun t =>
      t.readX 6 == 0 && t.pc == 0x104 && t.loadBytes 0x1000 4 == 0x77 &&
      t.reservation == none) := by decide +kernel

theorem test_step_sc_w_traps :
    stops (withReservation 0x1000 4 (word (start cfg32 [(10, 0x1000), (7, 0x77), (11, 0x1002)])))
      0x1875a32f (.storeMisaligned 0x1002) := by decide +kernel

theorem test_step_sc_d :
    runs (withReservation 0x1000 8 (word (start cfg64 [(10, 0x1000), (7, 0x1122334455667788)])))
      0x1875332f (fun t =>
      t.readX 6 == 0 && t.pc == 0x104 && t.loadBytes 0x1000 8 == 0x1122334455667788 &&
      t.reservation == none) := by decide +kernel

theorem test_step_amoswap_w :
    runs (word (start cfg32 [(10, 0x1000), (6, 0x11111111)]))
      0x086522af (fun t =>
      t.readX 5 == 0x80000005 && t.pc == 0x104 && t.loadBytes 0x1000 4 == 0x11111111 &&
      t.reservation == none) := by decide +kernel

theorem test_step_amoadd_w :
    runs (word (start cfg32 [(10, 0x1000), (6, 0x7FFFFFFB)]))
      0x006522af (fun t =>
      t.readX 5 == 0x80000005 && t.pc == 0x104 && t.loadBytes 0x1000 4 == 0 &&
      t.reservation == none) := by decide +kernel

theorem test_step_amoadd_w_traps :
    stops (word (start cfg32 [(10, 0x1000), (6, 1), (11, 0x1002)]))
      0x0065a2af (.storeMisaligned 0x1002) := by decide +kernel

theorem test_step_amoadd_d :
    runs (word (start cfg64 [(10, 0x1000), (6, 0xFFFFFFFF80000000)]))
      0x006532af (fun t =>
      t.readX 5 == 0x180000005 && t.pc == 0x104 && t.loadBytes 0x1000 8 == 0x100000005 &&
      t.reservation == none) := by decide +kernel

theorem test_step_amomin_w :
    runs (word (start cfg32 [(10, 0x1000), (6, 1)]))
      0x806522af (fun t =>
      t.readX 5 == 0x80000005 && t.pc == 0x104 && t.loadBytes 0x1000 4 == 0x80000005 &&
      t.reservation == none) := by decide +kernel

theorem test_step_amomax_w :
    runs (word (start cfg32 [(10, 0x1000), (6, 1)]))
      0xa06522af (fun t =>
      t.readX 5 == 0x80000005 && t.pc == 0x104 && t.loadBytes 0x1000 4 == 1 &&
      t.reservation == none) := by decide +kernel

theorem test_step_amominu_w :
    runs (word (start cfg32 [(10, 0x1000), (6, 1)]))
      0xc06522af (fun t =>
      t.readX 5 == 0x80000005 && t.pc == 0x104 && t.loadBytes 0x1000 4 == 1 &&
      t.reservation == none) := by decide +kernel

theorem test_step_amomaxu_w :
    runs (word (start cfg32 [(10, 0x1000), (6, 1)]))
      0xe06522af (fun t =>
      t.readX 5 == 0x80000005 && t.pc == 0x104 && t.loadBytes 0x1000 4 == 0x80000005 &&
      t.reservation == none) := by decide +kernel

theorem test_step_fmadd_s :
    runs (withF [(2, 0xFFFFFFFF7F800000), (3, 0xFFFFFFFF00000000), (4, 0xFFFFFFFF7FC00000)] (start cfg64 []))
      0x203100c3 (fun t =>
      t.readF 1 == 0xFFFFFFFF7FC00000 && t.pc == 0x104 && t.fflags == 16) := by decide +kernel

theorem test_step_fnmsub_s :
    runs (withF [(2, 0xFFFFFFFF40000000), (3, 0xFFFFFFFF40400000), (4, 0xFFFFFFFF3F800000)] (start cfg64 []))
      0x203100cb (fun t =>
      t.readF 1 == 0xFFFFFFFFC0A00000 && t.pc == 0x104 && t.fflags == 0) := by decide +kernel

theorem test_step_fnmadd_s :
    runs (withF [(2, 0xFFFFFFFF40000000), (3, 0xFFFFFFFF40400000), (4, 0xFFFFFFFF3F800000)] (start cfg64 []))
      0x203100cf (fun t =>
      t.readF 1 == 0xFFFFFFFFC0E00000 && t.pc == 0x104 && t.fflags == 0) := by decide +kernel

theorem test_step_fadd_s :
    runs (withF [(2, 0xFFFFFFFF3F800000), (3, 0xFFFFFFFF33800000)] (start cfg64 []))
      0x003100d3 (fun t =>
      t.readF 1 == 0xFFFFFFFF3F800000 && t.pc == 0x104 && t.fflags == 1) := by decide +kernel

theorem test_step_fmul_s :
    runs (withF [(2, 0xFFFFFFFF40400000), (3, 0xFFFFFFFF3EAAAAAB)] (start cfg64 []))
      0x103100d3 (fun t =>
      t.readF 1 == 0xFFFFFFFF3F800000 && t.pc == 0x104 && t.fflags == 1) := by decide +kernel

theorem test_step_fdiv_s :
    runs (withF [(2, 0xFFFFFFFF3F800000), (3, 0xFFFFFFFF40400000)] (start cfg64 []))
      0x183100d3 (fun t =>
      t.readF 1 == 0xFFFFFFFF3EAAAAAB && t.pc == 0x104 && t.fflags == 1) := by decide +kernel

theorem test_step_fsqrt_s :
    runs (withF [(2, 0xFFFFFFFF40000000)] (start cfg64 []))
      0x580100d3 (fun t =>
      t.readF 1 == 0xFFFFFFFF3FB504F3 && t.pc == 0x104 && t.fflags == 1) := by decide +kernel

theorem test_step_fsgnjn_s :
    runs (withF [(2, 0xFFFFFFFF3F800000), (3, 0xFFFFFFFF3F800000)] (start cfg64 []))
      0x203110d3 (fun t =>
      t.readF 1 == 0xFFFFFFFFBF800000 && t.pc == 0x104 && t.fflags == 0) := by decide +kernel

theorem test_step_fmin_s :
    runs (withF [(2, 0xFFFFFFFF7F800001), (3, 0xFFFFFFFF3F800000)] (start cfg64 []))
      0x283100d3 (fun t =>
      t.readF 1 == 0xFFFFFFFF3F800000 && t.pc == 0x104 && t.fflags == 16) := by decide +kernel

theorem test_step_feq_s :
    runs (withF [(2, 0xFFFFFFFF7F800001), (3, 0xFFFFFFFF3F800000)] (start cfg64 []))
      0xa03122d3 (fun t =>
      t.readX 5 == 0 && t.pc == 0x104 && t.fflags == 16) := by decide +kernel

theorem test_step_flt_s :
    runs (withF [(2, 0xFFFFFFFF7FC00000), (3, 0xFFFFFFFF3F800000)] (start cfg64 []))
      0xa03112d3 (fun t =>
      t.readX 5 == 0 && t.pc == 0x104 && t.fflags == 16) := by decide +kernel

theorem test_step_fcvt_w_s :
    runs (withF [(2, 0xFFFFFFFF40200000)] (start cfg32 []))
      0xc00102d3 (fun t =>
      t.readX 5 == 2 && t.pc == 0x104 && t.fflags == 1) := by decide +kernel

theorem test_step_fcvt_s_w :
    runs (start cfg32 [(6, 0x1000001)])
      0xd00300d3 (fun t =>
      t.readF 1 == 0xFFFFFFFF4B800000 && t.pc == 0x104 && t.fflags == 1) := by decide +kernel

theorem test_step_fcvt_wu_s :
    runs (withF [(2, 0xFFFFFFFFBF000000)] (start cfg32 []))
      0xc01112d3 (fun t =>
      t.readX 5 == 0 && t.pc == 0x104 && t.fflags == 1) := by decide +kernel

theorem test_step_fcvt_s_wu :
    runs (start cfg32 [(6, 0xFFFFFFFF)])
      0xd01300d3 (fun t =>
      t.readF 1 == 0xFFFFFFFF4F800000 && t.pc == 0x104 && t.fflags == 1) := by decide +kernel

theorem test_step_fcvt_l_s :
    runs (withF [(2, 0xFFFFFFFF5F000000)] (start cfg64 []))
      0xc02102d3 (fun t =>
      t.readX 5 == 0x7FFFFFFFFFFFFFFF && t.pc == 0x104 && t.fflags == 16) := by decide +kernel

theorem test_step_fcvt_s_l :
    runs (start cfg64 [(6, 0x1FFFFFFFF)])
      0xd02300d3 (fun t =>
      t.readF 1 == 0xFFFFFFFF50000000 && t.pc == 0x104 && t.fflags == 1) := by decide +kernel

theorem test_step_fcvt_lu_s :
    runs (withF [(2, 0xFFFFFFFF5F800000)] (start cfg64 []))
      0xc03102d3 (fun t =>
      t.readX 5 == 0xFFFFFFFFFFFFFFFF && t.pc == 0x104 && t.fflags == 16) := by decide +kernel

theorem test_step_fcvt_s_lu :
    runs (start cfg64 [(6, 0xFFFFFFFFFFFFFFFF)])
      0xd03300d3 (fun t =>
      t.readF 1 == 0xFFFFFFFF5F800000 && t.pc == 0x104 && t.fflags == 1) := by decide +kernel

theorem test_step_fmv_x_w :
    runs (withF [(2, 0xFFFFFFFFBF800000)] (start cfg64 []))
      0xe00102d3 (fun t =>
      t.readX 5 == 0xFFFFFFFFBF800000 && t.pc == 0x104) := by decide +kernel

theorem test_step_fmv_w_x :
    runs (start cfg64 [(6, 0x123456783F800000)])
      0xf00300d3 (fun t =>
      t.readF 1 == 0xFFFFFFFF3F800000 && t.pc == 0x104) := by decide +kernel

theorem test_step_fmadd_d :
    runs (withF [(2, 0x3FF0000000000001), (3, 0x3FF0000000000001), (4, 0xBFF0000000000002)] (start cfg64 []))
      0x223100c3 (fun t =>
      t.readF 1 == 0x3970000000000000 && t.pc == 0x104 && t.fflags == 0) := by decide +kernel

theorem test_step_fadd_d :
    runs (withF [(2, 0x3FB999999999999A), (3, 0x3FC999999999999A)] (start cfg64 []))
      0x023100d3 (fun t =>
      t.readF 1 == 0x3FD3333333333334 && t.pc == 0x104 && t.fflags == 1) := by decide +kernel

theorem test_step_fdiv_d :
    runs (withF [(2, 0x3FF0000000000000), (3, 0x4008000000000000)] (start cfg64 []))
      0x1a3100d3 (fun t =>
      t.readF 1 == 0x3FD5555555555555 && t.pc == 0x104 && t.fflags == 1) := by decide +kernel

theorem test_step_fsqrt_d :
    runs (withF [(2, 0x4000000000000000)] (start cfg64 []))
      0x5a0100d3 (fun t =>
      t.readF 1 == 0x3FF6A09E667F3BCD && t.pc == 0x104 && t.fflags == 1) := by decide +kernel

theorem test_step_fmin_d :
    runs (withF [(2, 0x7FF0000000000001), (3, 0x3FF0000000000000)] (start cfg64 []))
      0x2a3100d3 (fun t =>
      t.readF 1 == 0x3FF0000000000000 && t.pc == 0x104 && t.fflags == 16) := by decide +kernel

theorem test_step_fcvt_w_d :
    runs (withF [(2, 0x41DFFFFFFFE00000)] (start cfg32 []))
      0xc20102d3 (fun t =>
      t.readX 5 == 0x7FFFFFFF && t.pc == 0x104 && t.fflags == 16) := by decide +kernel

theorem test_step_fcvt_l_d :
    runs (withF [(2, 0x43E0000000000000)] (start cfg64 []))
      0xc22102d3 (fun t =>
      t.readX 5 == 0x7FFFFFFFFFFFFFFF && t.pc == 0x104 && t.fflags == 16) := by decide +kernel

theorem test_step_fcvt_d_l :
    runs (start cfg64 [(6, 0x20000000000001)])
      0xd22300d3 (fun t =>
      t.readF 1 == 0x4340000000000000 && t.pc == 0x104 && t.fflags == 1) := by decide +kernel

theorem test_step_fcvt_s_d :
    runs (withF [(2, 0x3FB999999999999A)] (start cfg64 []))
      0x401100d3 (fun t =>
      t.readF 1 == 0xFFFFFFFF3DCCCCCD && t.pc == 0x104 && t.fflags == 1) := by decide +kernel

theorem test_step_fcvt_d_s :
    runs (withF [(2, 0xFFFFFFFF7F800001)] (start cfg64 []))
      0x420100d3 (fun t =>
      t.readF 1 == 0x7FF8000000000000 && t.pc == 0x104 && t.fflags == 16) := by decide +kernel

theorem test_step_c_addi16sp :
    runs (start cfg32 [(2, 0x10000)])
      0x7101 (fun t =>
      t.readX 2 == 0xFE00 && t.pc == 0x102) := by decide +kernel

theorem test_step_c_lui :
    runs (start cfg64 [])
      0x7281 (fun t =>
      t.readX 5 == 0xFFFFFFFFFFFE0000 && t.pc == 0x102) := by decide +kernel

theorem test_step_c_beqz :
    runs (start cfg32 [(8, 0)])
      0xd001 (fun t =>
      t.pc == 0) := by decide +kernel

theorem test_step_c_lwsp :
    runs (bytes (start cfg64 [(2, 0x1000)]))
      0x4292 (fun t =>
      t.readX 5 == 0xFFFFFFFFFFEEDDCC && t.pc == 0x102) := by decide +kernel

theorem test_step_c_ebreak :
    stops (start cfg32 [])
      0x9002 (.breakpoint 0x100) := by decide +kernel

theorem test_step_c_jalr :
    runs (start cfg32 [(5, 0x2001)])
      0x9282 (fun t =>
      t.readX 1 == 0x102 && t.pc == 0x2000) := by decide +kernel

theorem test_step_c_add :
    runs (start cfg32 [(5, 0xFFFFFFFF), (6, 2)])
      0x929a (fun t =>
      t.readX 5 == 1 && t.pc == 0x102) := by decide +kernel
/-! ### States and operands that meet the hypotheses of the statements, clause by clause -/

/-- A state with an instruction at its pc. -/
def placed (cfg : Config) (pc : Word) (n w : Nat) : State :=
  { State.reset with cfg := cfg, pc := pc }.withFetchWord n w

/-- A state of a hart that idles in the `wfi` at 0x100, with the external interrupt pending or not, and with MIE. -/
def idling (pending mie : Bool) : State :=
  { start full [] with idle := true, irqPending := ⟨pending, false, false⟩, mie := mie }.withFetchWord 32 0x10500073

/-- A state of the full machine with its interrupt bits. -/
def withIrqs (pending enabled : IrqBits) (mie : Bool) : State :=
  { start full [] with irqPending := pending, irqEnable := enabled, mie := mie }

/-- The full machine under MISALIGNED = split. -/
def splitting : Config := { full with misaligned := .split }

/-- Two registers at the ends of the signed and unsigned orders, and a pointer to the last ram doubleword. -/
def ordered (cfg : Config) : State := start cfg [(1, -1), (2, 1), (3, 0), (10, 0xFFF8), (11, 0xFFFF)]

theorem witness_decode_encode : (Instr.add 31 0 1).wf Config.reset = true ∧ isMachine .rv64 (.add 31 0 1) ∧
    (Instr.c_lui 31 63).wf Config.reset = true ∧ isMachine .rv64 (.c_lui 31 63) ∧
    (Instr.c_jal 0x400).wf cfg32 = true ∧ isMachine .rv32 (.c_jal 0x400) :=
  ⟨by decide, rfl, by decide, rfl, by decide, rfl⟩

theorem witness_encode_decode : decodeCode Config.reset (.word 0x002081b3) = .ok (.add 3 1 2) ∧
    decodeCode cfg32 (.half 0x2001) = .ok (.c_jal 0) := ⟨rfl, rfl⟩

theorem witness_pseudo_runs_expansion : .jalr 1 1 0 ∈ (Instr.call 1 0 0).expand .rv64 ∧
    (Instr.call 1 0 0).wf Config.reset = true := by decide +kernel

theorem witness_step_runs_decoded_word : let s := placed Config.reset 0xFFFFFFFFFFFFFFFC 32 0x002081b3
    let code := Code.word 0x002081b3
    s.begin.irqToTake = none ∧ (s.begin.cfg.c = true ∨ s.begin.pc.toNat / 2 % 2 = 0) ∧
      (∀ k, k < code.len → s.begin.classAt (byteAddr s.begin.cfg.xlen s.begin.pc k) = .ram ∧
        s.begin.stale.find (byteAddr s.begin.cfg.xlen s.begin.pc k) = none ∧
        code.bytes[k]? = some (s.begin.mem.read (byteAddr s.begin.cfg.xlen s.begin.pc k))) ∧
      decodeCode s.begin.cfg code = .ok (.add 3 1 2) :=
  ⟨by decide +kernel, by decide +kernel, by decide +kernel, rfl⟩

theorem witness_step_runs_decoded_half : let s := placed cfg32 0xFFFE 16 0x829a
    let code := Code.half 0x829a
    s.begin.irqToTake = none ∧ (s.begin.cfg.c = true ∨ s.begin.pc.toNat / 2 % 2 = 0) ∧
      (∀ k, k < code.len → s.begin.classAt (byteAddr s.begin.cfg.xlen s.begin.pc k) = .ram ∧
        s.begin.stale.find (byteAddr s.begin.cfg.xlen s.begin.pc k) = none ∧
        code.bytes[k]? = some (s.begin.mem.read (byteAddr s.begin.cfg.xlen s.begin.pc k))) ∧
      decodeCode s.begin.cfg code = .ok (.c_mv 5 6) :=
  ⟨by decide +kernel, by decide +kernel, by decide +kernel, rfl⟩

theorem witness_step_runs_decoded_without_c : let s := placed bare 0xFFFC 32 0x002081b3
    let code := Code.word 0x002081b3
    s.begin.irqToTake = none ∧ (s.begin.cfg.c = true ∨ s.begin.pc.toNat / 2 % 2 = 0) ∧
      (∀ k, k < code.len → s.begin.classAt (byteAddr s.begin.cfg.xlen s.begin.pc k) = .ram ∧
        s.begin.stale.find (byteAddr s.begin.cfg.xlen s.begin.pc k) = none ∧
        code.bytes[k]? = some (s.begin.mem.read (byteAddr s.begin.cfg.xlen s.begin.pc k))) ∧
      decodeCode s.begin.cfg code = .ok (.add 3 1 2) :=
  ⟨by decide +kernel, by decide +kernel, by decide +kernel, rfl⟩

theorem witness_step_begins_running : (start full []).idle = false ∧ (start full []).cfg.trap = .machine ∧
    (start full []).irqInputs = [] ∧ (start cfg64 []).cfg.trap = .halt ∧
    { start full [] with irqInputs := [⟨true, false, false⟩] }.irqInputs = ⟨true, false, false⟩ :: [] := by
  decide +kernel

theorem witness_step_begins_idle : (idling true true).idle = true ∧ (∃ i, (idling true true).begin.Pending i) ∧
    (idling true true).mie = true ∧ (idling true false).priv = .machine ∧ (idling true false).mie = false := by
  refine ⟨rfl, ⟨11, ?_⟩, rfl, rfl, rfl⟩
  unfold State.Pending; decide +kernel

/-- An interrupt that the step takes finds the pc past the `wfi` of an idle hart (R603, 60_exceptions.md). -/
theorem test_idle_interrupted : gives (step (idling true true)) (fun t =>
    t.mepc == 0x104 && t.mcause == 0x800000000000000B && !t.idle) = true := by decide +kernel

/-- With interrupts globally off the step of an idle hart completes its `wfi` and executes nothing after it (R14,
00_scope.md; R251, 42_system.md; R603, 60_exceptions.md). -/
theorem test_idle_completes_alone : gives (step (idling true false)) (fun t =>
    t.pc == 0x104 && !t.idle && t.x == (idling true false).x && t.mepc == (idling true false).mepc) = true := by
  decide +kernel

theorem witness_reset : let image : Memory := [(0x100, 0x13), (0x8000, 0xFF)]
    (cfg32.wf = true ∧ { bare with resetPc := 0xFFFFFFFC }.wf = true) ∧ image.wf = true ∧
    (∀ c ∈ image, c.1 < (State.initial cfg32 image PowerOn.chosen).modulus) ∧
    full.modes.has PowerOn.chosen.mpp = true := by decide +kernel

/-- The registers that the spec leaves unspecified keep what the hart held, within the bounds the spec gives: `mepc`
without its low bits, and MPP an implemented mode (R57, 10_state.md). -/
theorem test_initial_state : let u : PowerOn := { PowerOn.chosen with mpp := .user, mepc := 0xFFFFFFFFFFFFFFFF }
    let t := State.initial { bare with resetPc := 0xFFFFFFFC } [(0x100000100, 0x13), (4, 0)] u
    t.pc = 0xFFFFFFFC ∧ t.mpp = .machine ∧ t.mepc = 0xFFFFFFFC ∧ t.mem = [(0x100, 0x13)] ∧ t.cfg.xlen = .rv32 := by
  decide +kernel

theorem witness_fetch_exceptions : (start bare []).begin.irqToTake = none ∧
    (let u := { start bare [] with pc := 0x102 }.begin; u.cfg.c = false ∧ u.pc.toNat / 2 % 2 = 1) ∧
    (let u := { start cfg64 [] with pc := 0x10000 }.begin; u.irqToTake = none ∧ u.cfg.c = true ∧
      u.classAt (byteAddr u.cfg.xlen u.pc 0) ≠ .ram) ∧
    (let u := (placed cfg32 0xFFFE 16 0x0003).begin; u.irqToTake = none ∧ u.cfg.c = true ∧
      (∀ k, k < 2 → u.classAt (byteAddr u.cfg.xlen u.pc k) = .ram) ∧
      (u.fetchByte (byteAddr u.cfg.xlen u.pc 0)).toNat % 4 = 3 ∧
      u.classAt (byteAddr u.cfg.xlen (u.addr 0 (u.upc + 2)) 0) ≠ .ram) := by decide +kernel

theorem witness_fetch_exceptions_illegal : let u := (placed cfg32 0x100 32 0xFFFFFFFF).begin
    u.irqToTake = none ∧ u.fetch = .ok (.word 0xFFFFFFFF) ∧
      ∃ why, decodeCode u.cfg (.word 0xFFFFFFFF) = .error why :=
  ⟨by decide +kernel, rfl, _, rfl⟩

theorem witness_steps : (∃ t, step (placed full 0x100 32 0x002081b3) = .next t) ∧
    (placed full 0x100 32 0x002081b3).cfg.trap = .machine ∧ (start cfg64 []).cfg.trap = .halt := by
  refine ⟨?_, rfl, rfl⟩
  obtain ⟨t, h, _⟩ := next_of_gives (o := step (placed full 0x100 32 0x002081b3)) (ok := fun _ => true)
    (by decide +kernel)
  exact ⟨t, h⟩

theorem witness_step_keeps_invariants : (placed full 0x100 32 0x00a13023).MemoryInv ∧
    (placed full 0x100 32 0x00a13023).ControlInv ∧ (placed full 0x100 32 0x00a13023).mem ≠ [] ∧
    (∃ t, step (placed full 0x100 32 0x00a13023) = .next t) := by
  refine ⟨?_, ?_, by decide +kernel, ?_⟩
  · unfold State.MemoryInv; decide +kernel
  · unfold State.ControlInv; decide +kernel
  · obtain ⟨t, h, _⟩ := next_of_gives (o := step (placed full 0x100 32 0x00a13023)) (ok := fun _ => true)
      (by decide +kernel)
    exact ⟨t, h⟩

theorem witness_li_loads_constant : (start cfg32 []).cfg.xlen = .rv32 ∧
    (0xFFFFFFFF80000000 : Word) = ((0xFFFFFFFF80000000 : Word).setWidth 32).signExtend 64 ∧
    (start cfg64 []).cfg.xlen ≠ .rv32 := by decide +kernel

theorem witness_branches : let s := ordered cfg64
    s.TargetOk (s.upc + (0x800 : BitVec 12).toInt * 2) ∧ (ordered bare).TargetOk ((ordered bare).upc + 4) ∧
    s.ux 1 = s.ux 1 ∧ s.ux 1 ≠ s.ux 2 ∧ s.sx 1 < s.sx 2 ∧ s.sx 1 ≤ s.sx 1 ∧ s.ux 2 < s.ux 1 ∧ s.ux 1 ≤ s.ux 1 ∧
    s.ux 3 = 0 ∧ s.ux 1 ≠ 0 ∧ s.sx 3 ≤ 0 ∧ 0 ≤ s.sx 3 ∧ s.sx 1 < 0 ∧ 0 < s.sx 2 ∧
    ¬s.sx 2 < s.sx 1 ∧ ¬s.ux 1 < s.ux 2 ∧ ¬s.sx 2 ≤ 0 ∧ ¬0 ≤ s.sx 1 ∧ ¬s.sx 3 < 0 ∧ ¬0 < s.sx 3 ∧
    ¬s.sx 2 ≤ s.sx 1 ∧ ¬s.ux 1 ≤ s.ux 2 := by unfold State.TargetOk; decide +kernel

theorem witness_compressed_control : let s := ordered cfg64
    s.ux (CReg.full 3) ≠ 0 ∧ (start cfg64 [(8, 0)]).ux (CReg.full 0) = 0 ∧
    s.TargetOk (s.upc + (0x80 : BitVec 8).toInt * 2) ∧ s.TargetOk (s.upc + (0x400 : BitVec 11).toInt * 2) ∧
    s.TargetOk (s.ux 1) := by unfold State.TargetOk; decide +kernel

theorem witness_jumps : let s := ordered bare
    s.TargetOk (s.upc + (0x80000 : BitVec 20).toInt * 2) ∧ s.TargetOk (s.ux 10 + (0x7FC : BitVec 12).toInt) ∧
    s.TargetOk (s.ux 10) ∧ (start bare [(1, 0x1001)]).TargetOk ((start bare [(1, 0x1001)]).ux 1) := by
  unfold State.TargetOk; decide +kernel

theorem witness_misaligned_target_raises : let s := ordered bare
    ¬s.TargetOk (s.upc + (1 : BitVec 12).toInt * 2) ∧ ¬s.TargetOk (s.upc + (0x7FFFF : BitVec 20).toInt * 2) ∧
    ¬s.TargetOk (s.masked (s.ux 11 + (0 : BitVec 12).toInt)) ∧ s.ux 1 = s.ux 1 ∧ s.ux 1 ≠ s.ux 2 ∧
    s.sx 1 < s.sx 2 ∧ s.sx 1 ≤ s.sx 1 ∧ s.ux 2 < s.ux 1 ∧ s.ux 1 ≤ s.ux 1 := by
  unfold State.TargetOk; decide +kernel

theorem witness_pseudo_symbols : let s := start full []
    s.TargetOk (s.upc + 0x804) ∧ s.cfg.xlen = .rv64 ∧ s.Accessible (s.addr 0 0xFFF8) 8 ∧
    (start cfg32 []).cfg.xlen = .rv32 ∧ (start cfg32 []).Accessible ((start cfg32 []).addr 0 0xFFFC) 4 := by
  unfold State.TargetOk State.Accessible; decide +kernel

theorem witness_loads : let s := ordered full
    s.Accessible (s.addr 10 7) 1 ∧ s.Accessible (s.addr 10 6) 2 ∧ s.Accessible (s.addr 10 4) 4 ∧
    s.Accessible (s.addr 10 0) 8 ∧ s.Accessible (s.addr 10 8) 8 ∧
    (ordered splitting).Accessible ((ordered splitting).addr 10 7) 8 ∧
    (start full [(2, 0xFF00)]).Accessible ((start full [(2, 0xFF00)]).addr 2 248) 8 := by
  unfold State.Accessible; decide +kernel

theorem witness_float_loads : let s := ordered full
    s.cfg.fp = .fd ∧ s.Accessible (s.addr 10 4) 4 ∧ s.Accessible (s.addr 10 0) 8 := by
  unfold State.Accessible; decide +kernel

theorem witness_stores : let s := ordered full
    s.Accessible (s.addr 10 7) 1 ∧ s.Accessible (s.addr 10 6) 2 ∧ s.Accessible (s.addr 10 4) 4 ∧
    s.Accessible (s.addr 10 0) 8 ∧ s.Accessible (s.addr 10 8) 8 ∧
    (ordered splitting).Accessible ((ordered splitting).addr 10 7) 8 ∧
    (start full [(2, 0xFF00)]).Accessible ((start full [(2, 0xFF00)]).addr 2 252) 4 ∧
    (start full [(2, 0xFF00)]).Accessible ((start full [(2, 0xFF00)]).addr 2 504) 8 := by
  unfold State.Accessible; decide +kernel

theorem witness_access_exceptions_compressed : let s := start full [(2, 0x10004), (9, 0x10100)]
    s.cfg.misaligned = .trap ∧ (s.addr 2 8).toNat % 8 ≠ 0 ∧
    ((start full [(9, 0xFFE)]).addr 9 124).toNat % 4 ≠ 0 ∧ (s.addr 9 0).toNat % 8 = 0 ∧
    s.classAt (byteAddr s.cfg.xlen (s.addr (CReg.full 1) 0) 0) = .none ∧
    s.classAt (byteAddr s.cfg.xlen (s.addr 2 252) 0) = .none := by decide +kernel

theorem witness_access_exceptions : let s := ordered full
    s.cfg.misaligned = .trap ∧ (s.addr 10 1).toNat % 2 ≠ 0 ∧ (s.addr 10 2).toNat % 4 ≠ 0 ∧
    (s.addr 10 4).toNat % 8 ≠ 0 ∧ (s.addr 10 0x108).toNat % 8 = 0 ∧
    s.classAt (byteAddr s.cfg.xlen (s.addr 10 0x108) 0) = .none ∧
    (ordered splitting).cfg.misaligned = .split ∧
    (ordered splitting).classAt (byteAddr .rv64 ((ordered splitting).addr 10 0x101) 7) = .none := by decide +kernel

theorem witness_fences : (start full []).cfg.modes = .msu ∧ (start full []).priv ≠ .user ∧
    (start cfg64 []).cfg.modes ≠ .msu ∧ (inUser (start full [])).priv = .user := by decide +kernel

theorem witness_atomics : let s := ordered full
    s.cfg.xlen = .rv64 ∧ s.Atomic (s.addr 10 0) 4 ∧ s.Atomic (s.addr 10 0) 8 ∧ (31 : Reg) ≠ 0 := by
  unfold State.Atomic; decide +kernel

theorem witness_store_conditional : let s := withReservation 0xFFF8 8 (ordered { full with scFail := .never })
    s.Atomic (s.addr 10 0) 8 ∧ s.reservation = some { addr := s.addr 10 0, size := 8 } ∧ s.cfg.scFail = .never ∧
    (ordered full).reservation = none ∧
    s.cfg.granule = none := by unfold State.Atomic; decide +kernel

theorem witness_store_conditional_elsewhere : let r := withReservation 0xFFF4 4 (ordered full)
    let u := withReservation 0xFFFC 4 (ordered full)
    r.Atomic (r.addr 10 0) 4 ∧ r.reservation = some ⟨0xFFF4, 4⟩ ∧ r.cfg.granule = none ∧
    (0xFFF4 : Word).toNat + 4 < (r.addr 10 0).toNat + 4 ∧ u.Atomic (u.addr 10 0) 4 ∧
    u.reservation = some ⟨0xFFFC, 4⟩ ∧ (u.addr 10 0).toNat < (0xFFFC : Word).toNat := by
  unfold State.Atomic; decide +kernel

/-- Blocks of twelve bytes: 0xFFF0 to 0xFFFB holds the reserved word, 0xFFFC lies beyond it. -/
theorem witness_store_conditional_granule : let s := withReservation 0xFFF0 4 (ordered { full with granule := some 12 })
    let a := s.addr 10 4
    s.Atomic a 4 ∧ s.cfg.granule = some 12 ∧
    ((0xFFF0 : Word).toNat + 4 - 1) / 12 < (a.toNat + 4 - 1) / 12 ∧
    s.scMaySucceed a 4 = false ∧ reservationSet (some 12) ⟨0xFFF0, 4⟩ = (0xFFF0, 0xFFFB) := by
  unfold State.Atomic; decide +kernel

theorem witness_atomic_exceptions : let s := start full [(10, 0x1002), (11, 0x10000), (12, 0x1004)]
    (s.addr 10 0).toNat % 4 ≠ 0 ∧ (s.addr 12 0).toNat % 8 ≠ 0 ∧ (s.addr 11 0).toNat % 8 = 0 ∧
    s.classAt (byteAddr s.cfg.xlen (s.addr 11 0) 0) = .io := by decide +kernel

theorem witness_trap_entry : (start full []).cfg.trap = .machine ∧
    ((start full []).writeCsr .mtvec 0x201).mtvec.toNat % 4 = 1 ∧ (start full []).mtvec.toNat % 4 ≠ 1 ∧
    (start cfg64 []).cfg.trap = .halt := by decide +kernel

theorem witness_trap_returns : (start full []).priv = .machine ∧ (inUser (start full [])).priv ≠ .machine ∧
    (start full []).cfg.modes = .msu ∧ (start full []).priv ≠ .user ∧
    (inUser (start full [])).priv = .user ∧ (start cfg64 []).cfg.modes ≠ .msu := by decide +kernel

theorem witness_wfi_completes_or_idles :
    ∃ i, (withIrqs ⟨false, true, false⟩ ⟨false, true, false⟩ false).Pending i :=
  ⟨7, by unfold State.Pending; decide +kernel⟩

theorem witness_user_mode_isolated : (inUser (start full [])).priv = .user ∧
    (∃ t, exec (.add 3 1 2) (inUser (start full [])) = .next t) ∧
    ∃ t, exec .ecall (inUser (start full [])) = .next t :=
  ⟨rfl, ⟨_, rfl⟩, ⟨_, rfl⟩⟩

theorem witness_interrupts_external : let u := (withIrqs ⟨true, true, true⟩ ⟨true, true, true⟩ true).begin
    u.Pending 11 ∧ u.priv = .machine ∧ u.mie = true := by unfold State.Pending; decide +kernel

theorem witness_interrupts_software : let u := (withIrqs ⟨false, true, true⟩ ⟨true, true, true⟩ true).begin
    u.Pending 3 ∧ ¬u.Pending 11 ∧ u.mie = true := by unfold State.Pending; decide +kernel

theorem witness_interrupts_timer : let u := (inUser (withIrqs ⟨false, true, false⟩ ⟨true, true, true⟩ false)).begin
    u.Pending 7 ∧ ¬u.Pending 11 ∧ ¬u.Pending 3 ∧ u.priv ≠ .machine := by unfold State.Pending; decide +kernel

theorem witness_interrupts_none : let s := withIrqs ⟨true, true, true⟩ ⟨true, true, true⟩ false
    s.priv = .machine ∧ s.mie = false ∧ (start cfg64 []).cfg.trap = .halt := by decide +kernel

theorem witness_csr_instructions : (start full []).CsrOk 0x341 True .mepc ∧
    (inUser (start full [])).CsrOk 0xC00 False (.counter .cycle) ∧
    (inUser (start full [])).CsrOk 0xC00 ((0 : Reg) ≠ 0#5) (.counter .cycle) ∧
    (inUser (start full [])).CsrOk 0x003 ((31 : Reg) ≠ 0#5) .fcsr ∧
    { start full [] with priv := .supervisor }.CsrOk 0x100 True .sstatus := by
  unfold State.CsrOk; decide +kernel

theorem witness_csr_pseudos : (start cfg32 []).cfg.xlen = .rv32 ∧ (start cfg32 []).cfg.fp ≠ .none ∧
    (start cfg32 []).CsrOk 0x003 True .fcsr := by unfold State.CsrOk; decide +kernel

theorem witness_csr_addresses : csrAt full 0x341 = some .mepc ∧ csrAt full 0x141 = some .sepc ∧
    csrAt bare 0x003 = none ∧ csrAt cfg64 0x305 = none ∧ csrAt cfg32 0xC80 = some (.counterHigh .cycle) := by
  decide +kernel

theorem witness_csr_access_illegal : csrAt full 0x7C0 = none ∧ csrAt cfg64 0xC80 = none ∧
    (privCode (inUser (start full [])).priv).toNat < (0x100 : BitVec 12).toNat / 256 % 4 ∧
    (0xC02 : BitVec 12).toNat / 1024 = 3 ∧ ((31 : Reg) ≠ 0#5) := by decide +kernel

theorem witness_csr_write_then_read : Csr.mepc ∈ [Csr.mtvec, .mcause, .mtval, .mscratch, .mepc, .sepc, .mie, .mip] ∧
    Csr.sepc ≠ .mepc := by decide +kernel

theorem witness_status_fields : (start full []).cfg.modes.has .supervisor = true ∧
    (0x800 : Word).extractLsb' 11 2 = privCode .supervisor ∧
    (start full []).cfg.modes.has .user = true ∧ (0 : Word).extractLsb' 11 2 = privCode .user := by decide +kernel

theorem witness_rounding_modes : (start full []).roundMode .rmm = some .rmm ∧
    (start full []).roundMode .dyn = some .rne ∧ (start full []).cfg.fp = .fd ∧
    (start full []).cfg.xlen = .rv64 := by decide +kernel

theorem witness_reserved_rounding : 5 ≤ ((start full []).writeCsr .frm 5).fcsr.toNat / 32 ∧
    5 ≤ ((start full []).writeCsr .frm 7).fcsr.toNat / 32 := by decide +kernel

theorem witness_flags_are_sticky : ¬isCsrInstr (.fclass_s 1 2) ∧ ∃ t, exec (.fclass_s 1 2) (start full []) = .next t :=
  ⟨id, _, rfl⟩

/-- The branches of the rounding: 1 is its own neighbour, twice the largest number overflows, and a quarter of the
smallest number is tiny. -/
theorem witness_rounding_is_correct : (0 : Nat) < 1 ∧ fpRound .single .rne false 1 0 = (0x3F800000, 0) ∧
    fpRound .single .rne false (2 ^ 24 - 1) 105 = (0x7F800000, flagOF ||| flagNX) ∧
    fpRound .single .rne false 1 (-151) = (0, flagUF ||| flagNX) := by decide +kernel

theorem witness_finite_values : (∃ x, fpReal .single 0x3F800000 = some x) ∧
    (∃ x, fpReal .double 0x8000000000000000 = some x) ∧ (-2 ^ 31 : Int) ≤ 2 ^ 31 - 1 := by
  have one : fpUnpack .single 0x3F800000 = .fin false 0x800000 (-23) := by decide +kernel
  have zero : fpUnpack .double 0x8000000000000000 = .fin true 0 (-1074) := by decide +kernel
  refine ⟨⟨rational false 0x800000 (-23), ?_⟩, ⟨rational true 0 (-1074), ?_⟩, by decide⟩
  · rw [fpReal, one]
  · rw [fpReal, zero]

theorem witness_special_values : fpIsNan .single 0x7F800001 = true ∧ fpIsSignaling .single 0x7F800001 = true ∧
    fpIsNan .double 0x7FF8000000000000 = true ∧ fpUnpack .double 0xFFF0000000000000 = .inf true ∧
    fpUnpack .single 0x7F800000 = .inf false ∧ fpIsNan .single 0 = false ∧ fpNeg .single 0xBF800000 = true := by
  decide +kernel

/-- Every clause on infinite operands has operands: an infinity beside a number, a zero and the other infinity. -/
theorem witness_infinite_operands : fpUnpack .single 0xFF800000 = .inf true ∧
    fpUnpack .single 0xFF800000 ≠ .inf (!true) ∧ fpIsNan .single 0x3F800000 = false ∧
    (fpReal .single 0x3F800000).isSome = true ∧ fpUnpack .single 0x3F800000 ≠ .inf true := by
  have one : fpUnpack .single 0x3F800000 = .fin false 0x800000 (-23) := by decide +kernel
  refine ⟨by decide +kernel, by decide +kernel, by decide +kernel, ?_, by decide +kernel⟩
  rw [fpReal, one]; rfl

end Sys2Proof.Tests
end

section
/-! PROOFS. The integer register `x0` (R31, 10_state.md), and `fcsr` with its windows `fflags` and `frm` (R46,
10_state.md): each read and each replacement of a window as a number. -/

namespace Sys2Proof.Machine

open Sys2Proof

/-- Settles O13: both halves are laws of the register accessors. -/
theorem x0_is_zero : Obligations.x0_is_zero :=
  ⟨State.readX_zero, State.setX_zero⟩

/-! ### The windows of `fcsr` as numbers -/

theorem State.fflags_toNat (s : State) : s.fflags.toNat = s.fcsr.toNat % 32 := by
  simp [State.fflags]

/-- `frm` is the top of the eight bits, so nothing is left to cut off above it. -/
theorem State.frm_toNat (s : State) : s.frm.toNat = s.fcsr.toNat / 32 := by
  have quotient_lt : s.fcsr.toNat / 2 ^ 5 < 2 ^ 3 := by omega
  simpa [State.frm, Nat.shiftRight_eq_div_pow] using Nat.mod_eq_of_lt quotient_lt

/-- `hi` in bits 7:5 above `lo` in bits 4:0: both windows' writes have this form. -/
theorem toNat_append_windows (hi : BitVec 3) (lo : BitVec 5) :
    (hi ++ lo).toNat = hi.toNat * 32 + lo.toNat := by
  rw [BitVec.toNat_append, ← Nat.shiftLeft_add_eq_or_of_lt lo.isLt, Nat.shiftLeft_eq]

/-- At either XLEN a field of at most 32 bits is read whole, with zero above it. -/
theorem truncX_setWidth_toNat {n : Nat} (xl : Xlen) (b : BitVec n) (h : n ≤ 32) :
    (truncX xl (b.setWidth 64)).toNat = b.toNat := by
  have fits : 2 ^ n ≤ 2 ^ xl.bits :=
    Nat.pow_le_pow_right (by decide) (by cases xl <;> simp only [Xlen.bits] <;> omega)
  have fits64 : 2 ^ n ≤ 2 ^ 64 := Nat.pow_le_pow_right (by decide) (by omega)
  rw [truncX_toNat, BitVec.toNat_setWidth, Nat.mod_eq_of_lt (b.isLt.trans_le fits64),
    Nat.mod_eq_of_lt (b.isLt.trans_le fits)]

/-! ### Reads and writes through the CSR addresses -/

theorem State.readCsr_fcsr_toNat (s : State) : (s.readCsr .fcsr).toNat = s.fcsr.toNat :=
  truncX_setWidth_toNat _ s.fcsr (by decide)

theorem State.readCsr_fflags_toNat (s : State) : (s.readCsr .fflags).toNat = s.fcsr.toNat % 32 :=
  (truncX_setWidth_toNat _ s.fflags (by decide)).trans s.fflags_toNat

theorem State.readCsr_frm_toNat (s : State) : (s.readCsr .frm).toNat = s.fcsr.toNat / 32 :=
  (truncX_setWidth_toNat _ s.frm (by decide)).trans s.frm_toNat

theorem State.writeCsr_fcsr_window (s : State) (v : Word) :
    ∃ w, s.writeCsr .fcsr v = { s with fcsr := w } ∧ w.toNat = v.toNat % 256 :=
  ⟨v.extractLsb' 0 8, rfl, by simp⟩

/-- A write to `fflags` keeps `frm` above the five bits it replaces. -/
theorem State.writeCsr_fflags_window (s : State) (v : Word) :
    ∃ w, s.writeCsr .fflags v = { s with fcsr := w } ∧
      w.toNat = s.fcsr.toNat / 32 * 32 + v.toNat % 32 :=
  ⟨s.frm ++ v.extractLsb' 0 5, rfl, by rw [toNat_append_windows, s.frm_toNat]; simp⟩

/-- A write to `frm` keeps `fflags` below the three bits it replaces. -/
theorem State.writeCsr_frm_window (s : State) (v : Word) :
    ∃ w, s.writeCsr .frm v = { s with fcsr := w } ∧
      w.toNat = v.toNat % 8 * 32 + s.fcsr.toNat % 32 :=
  ⟨v.extractLsb' 0 3 ++ s.fflags, rfl, by rw [toNat_append_windows, s.fflags_toNat]; simp⟩

/-- NV, DZ, OF, UF and NX stand at bits 4 to 0 (R46). -/
theorem flag_bits : flagNV.toNat = 2 ^ 4 ∧ flagDZ.toNat = 2 ^ 3 ∧ flagOF.toNat = 2 ^ 2 ∧
    flagUF.toNat = 2 ^ 1 ∧ flagNX.toNat = 2 ^ 0 := by decide

/-- Settles O47, from the reads and the writes of the three CSRs. -/
theorem fcsr_windows : Obligations.fcsr_windows :=
  ⟨flag_bits, fun s v =>
    ⟨s.readCsr_fcsr_toNat, s.readCsr_fflags_toNat, s.readCsr_frm_toNat,
      s.writeCsr_fcsr_window v, s.writeCsr_fflags_window v, s.writeCsr_frm_window v⟩⟩

end Sys2Proof.Machine
end

section
/-! PROOFS. How an instruction that writes `x[rd]` ends, for the two operand forms `liftX` and `liftW`, and the
quotients and remainders (R272, R278 to R285, 43_rvm.md). -/

namespace Sys2Proof.Machine

open Sys2Proof

/-! ### Numbers in words -/

theorem State.modulus_eq_two_pow (s : State) : s.modulus = 2 ^ s.cfg.xlen.bits := rfl

/-- A number kept in 64 bits and cut to XLEN bits is the number modulo `2^XLEN`. -/
theorem State.truncX_ofInt_toNat (s : State) (v : Int) :
    (truncX s.cfg.xlen (BitVec.ofInt 64 v)).toNat = s.wrap v := by
  rw [truncX_toNat, BitVec.toNat_ofInt, State.wrap, s.modulus_eq_two_pow]
  cases s.cfg.xlen <;> simp only [Xlen.bits] <;> omega

/-- An XLEN-bit operation is computed at width XLEN, and its result is zero-extended. -/
theorem liftX_toNat (xl : Xlen) (op : (w : Nat) → BitVec w → BitVec w → BitVec w) (a b : Word) :
    (liftX xl op a b).toNat = (op xl.bits (a.setWidth xl.bits) (b.setWidth xl.bits)).toNat := by
  cases xl
  · simp only [liftX, Xlen.bits, BitVec.toNat_setWidth]
    exact Nat.mod_eq_of_lt (by omega)
  · simp only [liftX, Xlen.bits, BitVec.setWidth_eq]

/-! ### Operands as numbers -/

theorem State.readX_toNat_lt (s : State) (r : Reg) : (s.readX r).toNat < 2 ^ s.cfg.xlen.bits := by
  rw [← s.truncX_readX r, truncX_toNat]
  exact Nat.mod_lt _ (Nat.two_pow_pos _)

theorem State.readX_setWidth_toNat (s : State) (r : Reg) :
    ((s.readX r).setWidth s.cfg.xlen.bits).toNat = s.ux r :=
  (BitVec.toNat_setWidth ..).trans (Nat.mod_eq_of_lt (s.readX_toNat_lt r))

theorem State.readX_setWidth_toInt (s : State) (r : Reg) :
    ((s.readX r).setWidth s.cfg.xlen.bits).toInt = s.sx r :=
  BitVec.toInt_setWidth _

theorem State.readX_low32_toNat (s : State) (r : Reg) : ((s.readX r).setWidth 32).toNat = s.ux32 r :=
  BitVec.toNat_setWidth ..

theorem State.readX_low32_toInt (s : State) (r : Reg) : ((s.readX r).setWidth 32).toInt = s.sx32 r :=
  BitVec.toInt_setWidth _

/-! ### Results of the word forms -/

theorem word32_neg_one : word32 (-1) = -1 := by decide

theorem State.word32_sx32 (s : State) (r : Reg) : word32 (s.sx32 r) = s.sx32 r := Int.bmod_bmod

theorem State.word32_ux32 (s : State) (r : Reg) : word32 (s.ux32 r) = s.sx32 r := by
  rw [← s.readX_low32_toNat, ← s.readX_low32_toInt, BitVec.toInt_eq_toNat_bmod, word32]

/-! ### How an instruction that writes `x[rd]` ends -/

/-- The whole next state of `doneX`: beside the value written, its frame. -/
theorem State.doneX_endsX (s : State) (rd : Reg) (n : Nat) {w : Word} {v : Int}
    (value : (truncX s.cfg.xlen w).toNat = s.wrap v) :
    s.EndsX (s.doneX (BitVec.ofNat 64 n) rd w) n rd v := by
  refine ⟨_, s.doneX_eq _ rd w, ?pc, ?result, fun r other => s.readX_setX_ne rd r w other,
    fun _ => rfl, rfl, ⟨fun _ => rfl, rfl, rfl⟩, ?system⟩
  case pc =>
    have sum : s.pc + BitVec.ofNat 64 n = BitVec.ofInt 64 (s.upc + n) := by
      simp [State.upc, BitVec.ofInt_add]
    rw [State.advance_pc, State.setX_pc, State.setX_cfg, sum, s.truncX_ofInt_toNat]
  case result =>
    rw [State.ux, State.readX_advance, s.readX_setX_self, ← value]
    split <;> rfl
  case system => simp [State.SameSystem, State.SameTrap, State.SameCsr, State.SameRun]

/-- An instruction whose operation at width XLEN gives `v` modulo `2^XLEN`. -/
theorem State.liftX_endsX (s : State) (rd rs1 rs2 : Reg) (n : Nat) {v : Int}
    {op : (w : Nat) → BitVec w → BitVec w → BitVec w}
    (result : op s.cfg.xlen.bits ((s.readX rs1).setWidth _) ((s.readX rs2).setWidth _) =
      BitVec.ofInt _ v) :
    s.EndsX (s.doneX (BitVec.ofNat 64 n) rd (liftX s.cfg.xlen op (s.readX rs1) (s.readX rs2))) n rd v := by
  apply s.doneX_endsX
  rw [truncX_toNat, liftX_toNat, result, Nat.mod_eq_of_lt (BitVec.isLt _), BitVec.toNat_ofInt]
  rfl

/-- A word form whose operation at 32 bits gives `v` modulo `2^32`. -/
theorem State.liftW_endsX (s : State) (rd rs1 rs2 : Reg) (n : Nat) {v : Int}
    {op : BitVec 32 → BitVec 32 → BitVec 32}
    (result : op ((s.readX rs1).setWidth 32) ((s.readX rs2).setWidth 32) = BitVec.ofInt 32 v) :
    s.EndsX (s.doneX (BitVec.ofNat 64 n) rd (liftW op (s.readX rs1) (s.readX rs2))) n rd (word32 v) := by
  apply s.doneX_endsX
  rw [liftW, result, BitVec.signExtend, BitVec.toInt_ofInt]
  exact s.truncX_ofInt_toNat _

/-! ### The four operations of division, at every width -/

theorem eq_zero_iff_toNat {w : Nat} (b : BitVec w) : b = 0#w ↔ b.toNat = 0 := by
  simp [BitVec.toNat_eq]

theorem allOnes_eq_ofInt (w : Nat) : BitVec.allOnes w = BitVec.ofInt w (-1) := by
  rw [BitVec.ofInt_neg, ← BitVec.neg_one_eq_allOnes]; rfl

/-- The overflow case needs no clause: `-2^(w-1)` divided by -1 is `2^(w-1)`, which `ofInt` wraps. -/
theorem divOp_eq_ofInt {w : Nat} (a b : BitVec w) :
    divOp w a b = BitVec.ofInt w (if b.toNat = 0 then -1 else a.toInt.tdiv b.toInt) := by
  simp only [divOp, eq_zero_iff_toNat, allOnes_eq_ofInt, apply_ite (BitVec.ofInt w)]

theorem divuOp_eq_ofInt {w : Nat} (a b : BitVec w) :
    divuOp w a b = BitVec.ofInt w (if b.toNat = 0 then -1 else ((a.toNat / b.toNat : Nat) : Int)) := by
  simp only [divuOp, eq_zero_iff_toNat, allOnes_eq_ofInt, apply_ite (BitVec.ofInt w), BitVec.ofInt_natCast]

theorem remOp_eq_ofInt {w : Nat} (a b : BitVec w) :
    remOp w a b = BitVec.ofInt w (if b.toNat = 0 then a.toInt else a.toInt.tmod b.toInt) := by
  simp only [remOp, eq_zero_iff_toNat, apply_ite (BitVec.ofInt w), BitVec.ofInt_toInt]

theorem remuOp_eq_ofInt {w : Nat} (a b : BitVec w) :
    remuOp w a b = BitVec.ofInt w (if b.toNat = 0 then a.toNat else ((a.toNat % b.toNat : Nat) : Int)) := by
  simp only [remuOp, eq_zero_iff_toNat, apply_ite (BitVec.ofInt w), BitVec.ofInt_natCast,
    BitVec.ofNat_toNat, BitVec.setWidth_eq]

/-! ### The eight instructions -/

theorem exec_div_endsX (s : State) (rd rs1 rs2 : Reg) : s.EndsX (exec (.div rd rs1 rs2) s) 4 rd
    (if s.ux rs2 = 0 then -1 else (s.sx rs1).tdiv (s.sx rs2)) :=
  s.liftX_endsX rd rs1 rs2 4 <| by
    rw [divOp_eq_ofInt, s.readX_setWidth_toNat, s.readX_setWidth_toInt, s.readX_setWidth_toInt]

theorem exec_divu_endsX (s : State) (rd rs1 rs2 : Reg) : s.EndsX (exec (.divu rd rs1 rs2) s) 4 rd
    (if s.ux rs2 = 0 then -1 else ((s.ux rs1 / s.ux rs2 : Nat) : Int)) :=
  s.liftX_endsX rd rs1 rs2 4 <| by
    rw [divuOp_eq_ofInt, s.readX_setWidth_toNat, s.readX_setWidth_toNat]

theorem exec_rem_endsX (s : State) (rd rs1 rs2 : Reg) : s.EndsX (exec (.rem rd rs1 rs2) s) 4 rd
    (if s.ux rs2 = 0 then s.sx rs1 else (s.sx rs1).tmod (s.sx rs2)) :=
  s.liftX_endsX rd rs1 rs2 4 <| by
    rw [remOp_eq_ofInt, s.readX_setWidth_toNat, s.readX_setWidth_toInt, s.readX_setWidth_toInt]

theorem exec_remu_endsX (s : State) (rd rs1 rs2 : Reg) : s.EndsX (exec (.remu rd rs1 rs2) s) 4 rd
    (if s.ux rs2 = 0 then s.ux rs1 else ((s.ux rs1 % s.ux rs2 : Nat) : Int)) :=
  s.liftX_endsX rd rs1 rs2 4 <| by
    rw [remuOp_eq_ofInt, s.readX_setWidth_toNat, s.readX_setWidth_toNat]

theorem exec_divw_endsX (s : State) (rd rs1 rs2 : Reg) : s.EndsX (exec (.divw rd rs1 rs2) s) 4 rd
    (if s.ux32 rs2 = 0 then -1 else word32 ((s.sx32 rs1).tdiv (s.sx32 rs2))) := by
  have ends := s.liftW_endsX rd rs1 rs2 4 (divOp_eq_ofInt ..)
  rwa [s.readX_low32_toNat, s.readX_low32_toInt, s.readX_low32_toInt, apply_ite word32,
    word32_neg_one] at ends

theorem exec_divuw_endsX (s : State) (rd rs1 rs2 : Reg) : s.EndsX (exec (.divuw rd rs1 rs2) s) 4 rd
    (if s.ux32 rs2 = 0 then -1 else word32 ((s.ux32 rs1 / s.ux32 rs2 : Nat) : Int)) := by
  have ends := s.liftW_endsX rd rs1 rs2 4 (divuOp_eq_ofInt ..)
  rwa [s.readX_low32_toNat, s.readX_low32_toNat, apply_ite word32, word32_neg_one] at ends

theorem exec_remw_endsX (s : State) (rd rs1 rs2 : Reg) : s.EndsX (exec (.remw rd rs1 rs2) s) 4 rd
    (if s.ux32 rs2 = 0 then s.sx32 rs1 else word32 ((s.sx32 rs1).tmod (s.sx32 rs2))) := by
  have ends := s.liftW_endsX rd rs1 rs2 4 (remOp_eq_ofInt ..)
  rwa [s.readX_low32_toNat, s.readX_low32_toInt, s.readX_low32_toInt, apply_ite word32,
    s.word32_sx32] at ends

theorem exec_remuw_endsX (s : State) (rd rs1 rs2 : Reg) : s.EndsX (exec (.remuw rd rs1 rs2) s) 4 rd
    (if s.ux32 rs2 = 0 then s.sx32 rs1 else word32 ((s.ux32 rs1 % s.ux32 rs2 : Nat) : Int)) := by
  have ends := s.liftW_endsX rd rs1 rs2 4 (remuOp_eq_ofInt ..)
  rwa [s.readX_low32_toNat, s.readX_low32_toNat, apply_ite word32, s.word32_ux32] at ends

/-- Settles O19, one instruction after another. -/
theorem divide : Obligations.divide := fun s rd rs1 rs2 =>
  ⟨exec_div_endsX s rd rs1 rs2, exec_divu_endsX s rd rs1 rs2, exec_rem_endsX s rd rs1 rs2,
    exec_remu_endsX s rd rs1 rs2, exec_divw_endsX s rd rs1 rs2, exec_divuw_endsX s rd rs1 rs2,
    exec_remw_endsX s rd rs1 rs2, exec_remuw_endsX s rd rs1 rs2⟩

end Sys2Proof.Machine
end

section
/-! PROOFS. Taking an exception, whole (R591, R592, 60_exceptions.md), and the exceptions of the A instructions
(R306, 44_rva.md). -/

namespace Sys2Proof.Machine

open Sys2Proof

/-! ### Words as numbers modulo `2^XLEN` -/

theorem State.wrap_natCast (s : State) (n : Nat) : s.wrap n = n % 2 ^ s.cfg.xlen.bits :=
  Int.toNat_natCast _

theorem State.truncX_ofNat_toNat (s : State) (n : Nat) :
    (truncX s.cfg.xlen (BitVec.ofNat 64 n)).toNat = s.wrap n := by
  rw [← BitVec.ofInt_natCast, s.truncX_ofInt_toNat]

theorem State.truncX_toNat_eq_wrap (s : State) (v : Word) :
    (truncX s.cfg.xlen v).toNat = s.wrap v.toNat := by
  rw [truncX_toNat, s.wrap_natCast]

/-- With offset 0 an address is the register's own value, which has at most XLEN bits. -/
theorem State.addr_zero (s : State) (r : Reg) : s.addr r 0 = s.readX r := by
  rw [State.addr, Int.add_zero, State.ux, ← s.truncX_toNat_eq_wrap, s.truncX_readX, BitVec.ofNat_toNat,
    BitVec.setWidth_eq]

/-! ### Addresses with their low bits cleared -/

theorem and_not_low_eq_shifts (v : Word) (k : Nat) :
    v &&& ~~~BitVec.ofNat 64 (2 ^ k - 1) = (v >>> k) <<< k := by
  ext i hi
  have mask : (BitVec.ofNat 64 (2 ^ k - 1))[i] = decide (i < k) := by
    rw [← BitVec.getLsbD_eq_getElem, BitVec.getLsbD_ofNat, Nat.testBit_two_pow_sub_one]
    simp [hi]
  by_cases low : i < k
  · simp [low, mask]
  · simp [low, mask, hi, Nat.add_sub_cancel' (Nat.le_of_not_lt low)]

theorem and_not_low_toNat (v : Word) (k : Nat) :
    (v &&& ~~~BitVec.ofNat 64 (2 ^ k - 1)).toNat = v.toNat / 2 ^ k * 2 ^ k := by
  rw [and_not_low_eq_shifts, BitVec.toNat_shiftLeft, BitVec.toNat_ushiftRight, Nat.shiftLeft_eq,
    Nat.shiftRight_eq_div_pow]
  exact Nat.mod_eq_of_lt ((Nat.div_mul_le_self _ _).trans_lt v.isLt)

/-- Clearing the low bit or the low two bits and cutting to XLEN bits commute. -/
theorem State.wrap_clear_low (s : State) (n k : Nat) (small : k = 1 ∨ k = 2) :
    s.wrap (n / 2 ^ k * 2 ^ k : Nat) = s.wrap n / 2 ^ k * 2 ^ k := by
  rw [s.wrap_natCast, s.wrap_natCast]
  rcases small with rfl | rfl <;> cases s.cfg.xlen <;> simp only [Xlen.bits] <;> omega

theorem State.truncX_clear_low_toNat (s : State) (v : Word) (k : Nat) (small : k = 1 ∨ k = 2) :
    (truncX s.cfg.xlen (v &&& ~~~BitVec.ofNat 64 (2 ^ k - 1))).toNat =
      s.wrap v.toNat / 2 ^ k * 2 ^ k := by
  rw [s.truncX_toNat_eq_wrap, and_not_low_toNat, s.wrap_clear_low _ k small]

theorem State.maskEpc_toNat (s : State) (v : Word) : (maskEpc s.cfg v).toNat = s.evenPc v := by
  unfold maskEpc State.evenPc
  cases s.cfg.c with
  | true => exact s.truncX_clear_low_toNat v 1 (.inl rfl)
  | false => exact s.truncX_clear_low_toNat v 2 (.inr rfl)

theorem State.trapBase_toNat (s : State) : s.trapBase.toNat = s.handler :=
  s.truncX_clear_low_toNat s.mtvec 2 (.inr rfl)

/-! ### Trap entry -/

/-- The whole state after a trap entry: what it writes and its frame. -/
theorem State.enterTrap_trapped (s : State) (cause : Nat) (tval target : Word) :
    s.Trapped (s.enterTrap (BitVec.ofNat 64 cause) tval target) cause tval.toNat target.toNat :=
  ⟨s.maskEpc_toNat s.pc, s.truncX_ofNat_toNat cause, s.truncX_toNat_eq_wrap tval, rfl, rfl, rfl, rfl,
    s.truncX_toNat_eq_wrap target, rfl, rfl, rfl, fun _ => rfl, fun _ => rfl, rfl,
    ⟨fun _ => rfl, rfl, rfl⟩, ⟨rfl, rfl, rfl, rfl, rfl⟩, ⟨rfl, rfl, rfl⟩, rfl, rfl⟩

/-- Raising an exception ends with its own cause code and trap value. -/
theorem State.raise_endsTrap (s : State) (e : Exc) : s.EndsTrap (s.raise e) e e.code e.info.toNat := by
  rcases s.raise_cases e with ⟨machine, raised⟩ | ⟨halt, raised⟩
  · refine ⟨fun _ => ⟨_, raised, ?_⟩, fun halt => by simp [machine] at halt⟩
    rw [← s.trapBase_toNat]
    exact s.enterTrap_trapped e.code e.info s.trapBase
  · exact ⟨fun machine => by simp [halt] at machine, fun _ => raised⟩

/-! ### The checks of the A extension -/

theorem State.allBytes_isRam_eq_false (s : State) {a : Word} {n : Nat}
    (h : ∃ k, k < n ∧ s.classAt (byteAddr s.cfg.xlen a k) ≠ .ram) : s.allBytes a isRam n = false := by
  simpa [State.allBytes, isRam] using h

theorem State.reserveExc_misaligned (s : State) {a : Word} {n : Nat} (h : a.toNat % n ≠ 0) :
    s.reserveExc a n = some (.loadMisaligned a) := if_pos h

theorem State.reserveExc_not_ram (s : State) {a : Word} {n : Nat} (aligned : a.toNat % n = 0)
    (h : ∃ k, k < n ∧ s.classAt (byteAddr s.cfg.xlen a k) ≠ .ram) :
    s.reserveExc a n = some (.loadAccess a) := by
  simp [State.reserveExc, aligned, s.allBytes_isRam_eq_false h]

theorem State.atomicExc_misaligned (s : State) {a : Word} {n : Nat} (h : a.toNat % n ≠ 0) :
    s.atomicExc a n = some (.storeMisaligned a) := if_pos h

theorem State.atomicExc_not_ram (s : State) {a : Word} {n : Nat} (aligned : a.toNat % n = 0)
    (h : ∃ k, k < n ∧ s.classAt (byteAddr s.cfg.xlen a k) ≠ .ram) :
    s.atomicExc a n = some (.storeAccess a) := by
  simp [State.atomicExc, aligned, s.allBytes_isRam_eq_false h]

/-! ### How an A instruction traps -/

/-- R306 of one outcome: at an address that is not a multiple of `n` it is the trap of `misaligned`, and at an
aligned one with a byte outside ram the trap of `access`. -/
def State.AtomicTraps (s : State) (o : Outcome) (a : Word) (n : Nat) (misaligned access : Exc) : Prop :=
  (a.toNat % n ≠ 0 → s.EndsTrap o misaligned misaligned.code misaligned.info.toNat) ∧
    (a.toNat % n = 0 → (∃ k, k < n ∧ s.classAt (byteAddr s.cfg.xlen a k) ≠ .ram) →
      s.EndsTrap o access access.code access.info.toNat)

/-- What raises the exceptions of `reserveExc` traps with the load kind. -/
theorem State.atomicTraps_of_reserveExc (s : State) {o : Outcome} {a : Word} {n : Nat}
    (raises : ∀ e, s.reserveExc a n = some e → o = s.raise e) :
    s.AtomicTraps o a n (.loadMisaligned a) (.loadAccess a) :=
  ⟨fun h => raises _ (s.reserveExc_misaligned h) ▸ s.raise_endsTrap _,
    fun aligned h => raises _ (s.reserveExc_not_ram aligned h) ▸ s.raise_endsTrap _⟩

/-- What raises the exceptions of `atomicExc` traps with the store kind. -/
theorem State.atomicTraps_of_atomicExc (s : State) {o : Outcome} {a : Word} {n : Nat}
    (raises : ∀ e, s.atomicExc a n = some e → o = s.raise e) :
    s.AtomicTraps o a n (.storeMisaligned a) (.storeAccess a) :=
  ⟨fun h => raises _ (s.atomicExc_misaligned h) ▸ s.raise_endsTrap _,
    fun aligned h => raises _ (s.atomicExc_not_ram aligned h) ▸ s.raise_endsTrap _⟩

theorem State.loadReserved_traps (s : State) (a : Word) (n : Nat) (rd : Reg) :
    s.AtomicTraps (s.loadReserved a n rd) a n (.loadMisaligned a) (.loadAccess a) :=
  s.atomicTraps_of_reserveExc fun e h => by rw [State.loadReserved, h]

theorem State.storeConditional_traps (s : State) (a : Word) (n : Nat) (v : Word) (rd : Reg) :
    s.AtomicTraps (s.storeConditional a n v rd) a n (.storeMisaligned a) (.storeAccess a) :=
  s.atomicTraps_of_atomicExc fun e h => by rw [State.storeConditional, h]

theorem State.amo32_traps (s : State) (a src : Word) (rd : Reg)
    (op : BitVec 32 → BitVec 32 → BitVec 32) :
    s.AtomicTraps (s.amo32 a src rd op) a 4 (.storeMisaligned a) (.storeAccess a) :=
  s.atomicTraps_of_atomicExc fun e h => by rw [State.amo32, h]

theorem State.amo64_traps (s : State) (a src : Word) (rd : Reg) (op : Word → Word → Word) :
    s.AtomicTraps (s.amo64 a src rd op) a 8 (.storeMisaligned a) (.storeAccess a) :=
  s.atomicTraps_of_atomicExc fun e h => by rw [State.amo64, h]

/-- Settles O37: each A instruction is one of the four shared operations at the address in `x[rs1]`. -/
theorem atomic_exceptions : Obligations.atomic_exceptions := by
  intro s rd rs1 rs2 aq rl
  rw [s.addr_zero rs1]
  have word := s.amo32_traps (s.readX rs1) (s.readX rs2) rd
  have double := s.amo64_traps (s.readX rs1) (s.readX rs2) rd
  exact ⟨s.loadReserved_traps _ 4 rd, s.loadReserved_traps _ 8 rd,
    s.storeConditional_traps _ 4 _ rd, s.storeConditional_traps _ 8 _ rd,
    word fun _ src => src, double fun _ src => src,
    word fun t src => t + src, double fun t src => t + src,
    word fun t src => t ^^^ src, double fun t src => t ^^^ src,
    word fun t src => t &&& src, double fun t src => t &&& src,
    word fun t src => t ||| src, double fun t src => t ||| src,
    word (minOp 32), double (minOp 64), word (maxOp 32), double (maxOp 64),
    word (minuOp 32), double (minuOp 64), word (maxuOp 32), double (maxuOp 64)⟩

end Sys2Proof.Machine
end

section
/-! PROOFS. What every instruction can do (`Ending`), said once, by the shared operation it ends in; the statements
about all instructions or all steps follow from it. -/

namespace Sys2Proof

/-- The instructions of two bytes: those of the C extension (R110, 30_encoding.md). -/
def Instr.short (i : Instr) : Bool :=
  match i.tag.1 with
  | .c | .fc | .dc => true
  | _ => false

/-- A short instruction is available only with C. -/
theorem Instr.c_of_short {cfg : Config} {i : Instr} (available : i.available cfg = true)
    (short : i.short = true) : cfg.c = true := by
  unfold Instr.short at short
  unfold Instr.available at available
  split at short <;> simp_all [Config.hasExt]

end Sys2Proof

namespace Sys2Proof.Machine

open Sys2Proof

/-! ### What an instruction does to the state, apart from the pc, the control registers and the mode -/

/-- What an instruction that is no CSR instruction, trap or return does before the pc moves: it writes registers,
accrues flags, stores to memory and sets the reservation. -/
structure State.Works (s t : State) : Prop where
  frame : t = { s with
    x := t.x, f := t.f, fcsr := t.fcsr, reservation := t.reservation, mem := t.mem, stale := t.stale,
    ioTrace := t.ioTrace }
  flags : ∃ fl : BitVec 5, t.fcsr = s.fcsr ||| fl.setWidth 8
  memory : s.MemoryInv → t.MemoryInv

theorem State.Works.refl (s : State) : s.Works s := ⟨rfl, ⟨0#5, by simp⟩, id⟩

theorem State.Works.setX {s t : State} (h : s.Works t) (rd : Reg) (v : Word) : s.Works (t.setX rd v) := by
  obtain ⟨frame, flags, memory⟩ := h
  exact ⟨by rw [State.setX, frame], flags, memory⟩

theorem State.Works.setF {s t : State} (h : s.Works t) (rd : Reg) (v : Word) : s.Works (t.setF rd v) := by
  obtain ⟨frame, flags, memory⟩ := h
  exact ⟨by rw [State.setF, frame], flags, memory⟩

theorem State.Works.setS {s t : State} (h : s.Works t) (rd : Reg) (v : BitVec 32) : s.Works (t.setS rd v) :=
  h.setF rd _

theorem State.Works.reserve {s t : State} (h : s.Works t) (r : Option Reservation) :
    s.Works { t with reservation := r } := by
  obtain ⟨frame, flags, memory⟩ := h
  exact ⟨by rw [frame], flags, memory⟩

theorem State.Works.accrue {s t : State} (h : s.Works t) (fl : BitVec 5) : s.Works (t.accrue fl) := by
  obtain ⟨frame, ⟨fl', flags⟩, memory⟩ := h
  refine ⟨by rw [State.accrue, frame], ⟨fl' ||| fl, ?_⟩, memory⟩
  rw [State.accrue, flags, BitVec.setWidth_or, BitVec.or_assoc]

theorem State.Works.fenceI (s : State) : s.Works { s with stale := [] } :=
  ⟨rfl, ⟨0#5, by simp⟩, fun ⟨wf, _, inside, _⟩ => ⟨wf, rfl, inside, by simp⟩⟩

/-- A byte stored at an address of the address space keeps memory in its form. -/
theorem State.MemoryInv.storeByte {s : State} (h : s.MemoryInv) {a : Nat} (ha : a < s.modulus) (v : Byte) :
    (s.storeByte a v).MemoryInv := by
  obtain ⟨wf, sorted, inside, staleInside⟩ := h
  unfold State.storeByte
  split
  · exact ⟨wf, sorted, inside, staleInside⟩
  · refine ⟨Memory.wf_write _ _ _ wf, Memory.sorted_markStale _ _ _ sorted, fun c hc => ?_, fun c hc => ?_⟩
    · rcases Memory.mem_write hc with rfl | old
      · exact ha
      · exact inside c old
    · rcases Memory.mem_markStale hc with rfl | old
      · exact ha
      · exact staleInside c old
  · exact ⟨wf, sorted, inside, staleInside⟩

theorem State.Works.storeByte {s t : State} (h : s.Works t) {a : Nat} (ha : a < s.modulus) (v : Byte) :
    s.Works (t.storeByte a v) := by
  obtain ⟨frame, flags, memory⟩ := h
  have cfg : t.cfg = s.cfg := by rw [frame]
  refine ⟨?_, by simpa using flags, fun inv => (memory inv).storeByte (by rwa [State.modulus, cfg]) v⟩
  unfold State.storeByte
  split <;> rw [frame]

theorem State.Works.storeBytes (s : State) (addr v : Word) (n : Nat) : s.Works (s.storeBytes addr v n) := by
  induction n with
  | zero => exact .refl s
  | succ n ih => exact ih.storeByte (byteAddr_lt _ _ _) _

/-! ### How an instruction ends -/

/-- The number of bytes of an instruction (`ilen`, R81, 20_memory.md). -/
def Length (i : Instr) (len : Word) : Prop := len = if i.short then 2#64 else 4#64

/-- The ends of the instruction `i` from the state `s`: a trap, the next instruction, a jump, a
CSR access, a return, or idling. -/
inductive Ending (i : Instr) (s : State) : Outcome → Prop
  | raises (e : Exc) : Ending i s (s.raise e)
  | advances {t : State} {len : Word} : Length i len → s.Works t → Ending i s (.next (t.advance len))
  | jumps {t : State} (target : Word) : s.Works t → (s.pc[0] = false → target[0] = false) →
      (s.cfg.c = true ∨ (truncX s.cfg.xlen target)[1] = false) → Ending i s (.next (t.setPc target))
  | accesses {a : BitVec 12} {writes : Bool} (c : Csr) (rd : Reg) (v r : Word) : isCsrInstr i →
      s.csrFor a writes = some c →
      Ending i s (.next (((if writes then s.writeCsr c v else s).setX rd r).advance 4#64))
  | returnsM : s.priv = .machine → Ending i s (.next s.returnM)
  | returnsS : s.cfg.modes.has .supervisor = true → s.priv ≠ .user → Ending i s (.next s.returnS)
  | idles : Ending i s (.next { s with idle := true })

variable {i : Instr} (s : State) {len : Word}

theorem Ending.doneX (rd : Reg) (v : Word)
    (h : Length i len := by rfl) : Ending i s (s.doneX len rd v) :=
  .advances h (.setX (.refl s) rd v)

theorem Ending.doneS (rd : Reg) (r : Nat × BitVec 5)
    (len : Length i 4#64 := by rfl) : Ending i s (s.doneS rd r) :=
  .advances len (.accrue (.setS (.refl s) rd _) r.2)

theorem Ending.doneD (rd : Reg) (r : Nat × BitVec 5)
    (len : Length i 4#64 := by rfl) : Ending i s (s.doneD rd r) :=
  .advances len (.accrue (.setF (.refl s) rd _) r.2)

theorem Ending.doneI (rd : Reg) (v : Word) (fl : BitVec 5)
    (len : Length i 4#64 := by rfl) : Ending i s (s.doneI rd v fl) :=
  .advances len (.accrue (.setX (.refl s) rd v) fl)

theorem Ending.load {addr : Word} {n : Nat} {put : Nat → State → State} (works : ∀ v, s.Works (put v s))
    (h : Length i len := by rfl) :
    Ending i s (s.load len addr n put) := by
  rcases s.load_cases len addr n put with ⟨e, -, eq⟩ | ⟨-, eq⟩ <;> rw [eq]
  · exact .raises e
  · exact .advances h (works _)

theorem Ending.loadX {addr : Word} {n : Nat} (rd : Reg) (value : Nat → Word)
    (h : Length i len := by rfl) :
    Ending i s (s.load len addr n fun v t => t.setX rd (value v)) :=
  .load s (h := h) fun _ => .setX (.refl s) rd _

theorem Ending.loadS {addr : Word} {n : Nat} (rd : Reg) (value : Nat → BitVec 32)
    (h : Length i len := by rfl) :
    Ending i s (s.load len addr n fun v t => t.setS rd (value v)) :=
  .load s (h := h) fun _ => .setS (.refl s) rd _

theorem Ending.loadF {addr : Word} {n : Nat} (rd : Reg) (value : Nat → Word)
    (h : Length i len := by rfl) :
    Ending i s (s.load len addr n fun v t => t.setF rd (value v)) :=
  .load s (h := h) fun _ => .setF (.refl s) rd _

theorem Ending.store (addr : Word) (n : Nat) (v : Word)
    (h : Length i len := by rfl) : Ending i s (s.store len addr n v) := by
  rcases s.store_cases len addr n v with ⟨e, -, eq⟩ | ⟨-, eq⟩ <;> rw [eq]
  · exact .raises e
  · exact .advances h (.storeBytes s addr v n)

theorem Ending.jump {target : Word} {link : State → State} (works : s.Works (link s))
    (even : s.pc[0] = false → target[0] = false) : Ending i s (s.jump target link) := by
  rcases s.jump_cases target link with ⟨-, -, h⟩ | ⟨aligned, h⟩ <;> rw [h]
  · exact .raises _
  · exact .jumps target works even aligned

theorem add_bit_zero (v w : Word) : (v + w)[0] = (v[0] ^^ w[0]) := by
  simp [← BitVec.getLsbD_eq_getElem, BitVec.getLsbD_add]

/-- A jump to the pc plus an even offset. -/
theorem Ending.jumpBy {off : Word} {link : State → State} (works : s.Works (link s))
    (even : off[0] = false) : Ending i s (s.jump (s.pc + off) link) :=
  .jump s works fun pc => by rw [add_bit_zero, pc, even]; rfl

theorem Ending.branch (taken : Bool) {off : Word} (even : off[0] = false)
    (h : Length i len := by rfl) :
    Ending i s (s.branch len taken off) := by
  rw [s.branch_eq]
  split
  · exact .jumpBy s (.refl s) even
  · exact .advances h (.refl s)

theorem Ending.withRound (rm : Rounding) {k : RoundMode → Outcome}
    (h : ∀ mode, Ending i s (k mode)) : Ending i s (s.withRound i rm k) := by
  rcases s.withRound_cases i rm k with ⟨-, raised⟩ | ⟨mode, -, ran⟩
  · rw [raised]; exact .raises _
  · rw [ran]; exact h mode

theorem Ending.loadReserved (addr : Word) (n : Nat) (rd : Reg)
    (len : Length i 4#64 := by rfl) :
    Ending i s (s.loadReserved addr n rd) := by
  rcases s.loadReserved_cases addr n rd with ⟨e, -, h⟩ | ⟨-, h⟩ <;> rw [h]
  · exact .raises e
  · exact .advances len (.setX (.reserve (.refl s) _) _ _)

theorem Ending.storeConditional (addr : Word) (n : Nat) (v : Word) (rd : Reg)
    (len : Length i 4#64 := by rfl) :
    Ending i s (s.storeConditional addr n v rd) := by
  rcases s.storeConditional_cases addr n v rd with ⟨e, -, h⟩ | ⟨-, -, -, h⟩ | ⟨-, -, h⟩ <;> rw [h]
  · exact .raises e
  · exact .advances len (.setX (.reserve (.storeBytes s addr v n) _) _ _)
  · exact .advances len (.setX (.reserve (.refl s) _) _ _)

theorem Ending.amo32 (addr src : Word) (rd : Reg) (op : BitVec 32 → BitVec 32 → BitVec 32)
    (len : Length i 4#64 := by rfl) :
    Ending i s (s.amo32 addr src rd op) := by
  rcases s.amo32_cases addr src rd op with ⟨e, -, h⟩ | ⟨-, h⟩ <;> rw [h]
  · exact .raises e
  · exact .advances len (.setX (.storeBytes s addr _ 4) _ _)

theorem Ending.amo64 (addr src : Word) (rd : Reg) (op : Word → Word → Word)
    (len : Length i 4#64 := by rfl) :
    Ending i s (s.amo64 addr src rd op) := by
  rcases s.amo64_cases addr src rd op with ⟨e, -, h⟩ | ⟨-, h⟩ <;> rw [h]
  · exact .raises e
  · exact .advances len (.setX (.storeBytes s addr _ 8) _ _)

theorem Ending.csrOp (rd : Reg) (a : BitVec 12) (writes : Bool) (new : Word → Word)
    (csr : isCsrInstr i := by trivial) :
    Ending i s (s.csrOp i rd a writes new) := by
  rcases s.csrOp_cases i rd a writes new with ⟨-, h⟩ | ⟨c, allowed, h⟩ <;> rw [h]
  · exact .raises _
  · exact .accesses c rd _ _ csr allowed

end Sys2Proof.Machine
end

section
/-! PROOFS. Every machine instruction ends in one of the ways of `Ending`, and so does every instruction and every step. -/

namespace Sys2Proof.Machine

open Sys2Proof

theorem append_zero_bit_zero {xl : Xlen} {n : Nat} (off : BitVec n) : (sextX xl (off ++ 0#1))[0] = false := by
  cases xl <;> simp [sextX, truncX, ← BitVec.getLsbD_eq_getElem, BitVec.getLsbD_signExtend, BitVec.getLsbD_append]

theorem mask_bit_zero (v : Word) : (v &&& ~~~1#64)[0] = false := by
  simp [← BitVec.getLsbD_eq_getElem]

/-- A jump to a register value with bit 0 masked off. -/
theorem Ending.jumpMasked (s : State) {i : Instr} {v : Word} {link : State → State} (works : s.Works (link s)) :
    Ending i s (s.jump (v &&& ~~~1#64) link) :=
  .jump s works fun _ => mask_bit_zero v

theorem Ending.mret (s : State) {i : Instr} : Ending i s (execMret s) := by
  unfold execMret
  split
  · next h => exact .returnsM h
  · exact .raises _

theorem Ending.sret (s : State) {i : Instr} : Ending i s (execSret s) := by
  unfold execSret
  split
  · next h => exact .returnsS h.1 h.2
  · exact .raises _

theorem Ending.wfi {i : Instr} (s : State) (len : Length i 4#64 := by rfl) :
    Ending i s (execWfi s) := by
  unfold execWfi
  split
  · exact .idles
  · exact .advances len (.refl s)

theorem Ending.sfenceVma {i : Instr} (s : State) (rs1 rs2 : Reg) (len : Length i 4#64 := by rfl) :
    Ending i s (execSfenceVma rs1 rs2 s) := by
  unfold execSfenceVma
  split
  · exact .advances len (.refl s)
  · exact .raises _

/-- No step of `li` is `li` itself. -/
theorem LiStep.instr_ne_li (rd r : Reg) (imm : Word) (step : LiStep) : step.instr rd ≠ .li r imm := by
  cases step <;> simp [LiStep.instr]

theorem not_isMachine_li (xl : Xlen) (rd : Reg) (imm : Word) : ¬isMachine xl (.li rd imm) := by
  intro h
  obtain ⟨step, -, eq⟩ := List.mem_map.1 (show Instr.li rd imm ∈ (liSteps xl imm).map (LiStep.instr rd) from
    (show (liSteps xl imm).map (LiStep.instr rd) = _ from h) ▸ List.mem_singleton_self _)
  exact LiStep.instr_ne_li rd rd imm step eq

theorem not_isMachine_la (xl : Xlen) (rd : Reg) (got : Bool) (hi : BitVec 20) (lo : BitVec 12) :
    ¬isMachine xl (.la rd got hi lo) := by
  cases got <;> cases xl <;> exact nofun

/-- Every machine instruction ends in one of these ways. -/
theorem exec_ending (s : State) (i : Instr) (machine : isMachine s.cfg.xlen i) :
    Ending i s (exec i s) := by
  unfold exec
  cases i with
  | add | sub | sll | slt | sltu | xor | srl | sra
  | or | and | addi | slti | sltiu | xori | ori
  | andi | slli | srli | srai | lui | auipc | addw
  | subw | sllw | srlw | sraw | addiw | slliw | srliw
  | sraiw | mul | mulh | mulhsu | mulhu | div | divu
  | rem | remu | mulw | divw | divuw | remw | remuw
  | fclass_s | fclass_d | fmv_x_w | fmv_x_d => exact .doneX s _ _
  | c_addi4spn | c_addi | c_addiw | c_li | c_addi16sp | c_lui
  | c_srli | c_srai | c_andi | c_sub | c_xor | c_or
  | c_and | c_subw | c_addw | c_slli | c_mv | c_add => exact .doneX s _ _
  | beq | bne | blt | bge | bltu | bgeu => exact .branch s _ (append_zero_bit_zero _)
  | c_beqz | c_bnez => exact .branch s _ (append_zero_bit_zero _)
  | jal | c_jal => exact .jumpBy s (link := fun t => t.setX _ _) (.setX (.refl s) _ _) (append_zero_bit_zero _)
  | c_j => exact .jumpBy s (.refl s) (append_zero_bit_zero _)
  | jalr | c_jalr => exact .jumpMasked s (link := fun t => t.setX _ _) (.setX (.refl s) _ _)
  | c_jr => exact .jumpMasked s (.refl s)
  | lb | lh | lw | ld | lbu | lhu | lwu => exact .loadX s _ _
  | flw => exact .loadS s _ _
  | fld => exact .loadF s _ _
  | c_lw | c_ld | c_lwsp | c_ldsp => exact .loadX s _ _
  | c_flw | c_flwsp => exact .loadS s _ _
  | c_fld | c_fldsp => exact .loadF s _ _
  | sb | sh | sw | sd | fsw | fsd => exact .store s _ _ _
  | c_sw | c_sd | c_fsw | c_fsd | c_swsp | c_sdsp
  | c_fswsp | c_fsdsp => exact .store s _ _ _
  | fence => exact .advances rfl (.refl s)
  | fence_i => exact .advances rfl (.fenceI s)
  | csrrw | csrrs | csrrc | csrrwi | csrrsi | csrrci => exact .csrOp s _ _ _ _
  | ecall | ebreak | c_ebreak => exact .raises _
  | mret => exact .mret s
  | sret => exact .sret s
  | wfi => exact .wfi s
  | sfence_vma => exact .sfenceVma s _ _
  | lr_w | lr_d => exact .loadReserved s _ _ _
  | sc_w | sc_d => exact .storeConditional s _ _ _ _
  | amoswap_w | amoadd_w | amoxor_w | amoand_w | amoor_w
  | amomin_w | amomax_w | amominu_w | amomaxu_w => exact .amo32 s _ _ _ _
  | amoswap_d | amoadd_d | amoxor_d | amoand_d | amoor_d
  | amomin_d | amomax_d | amominu_d | amomaxu_d => exact .amo64 s _ _ _ _
  | fmadd_s | fmsub_s | fnmsub_s | fnmadd_s | fadd_s | fsub_s
  | fmul_s | fdiv_s | fsqrt_s | fcvt_s_w | fcvt_s_wu
  | fcvt_s_l | fcvt_s_lu | fcvt_s_d => exact .withRound s _ fun _ => .doneS s _ _
  | fmadd_d | fmsub_d | fnmsub_d | fnmadd_d | fadd_d | fsub_d
  | fmul_d | fdiv_d | fsqrt_d | fcvt_d_w | fcvt_d_wu
  | fcvt_d_l | fcvt_d_lu | fcvt_d_s => exact .withRound s _ fun _ => .doneD s _ _
  | fcvt_w_s | fcvt_wu_s | fcvt_l_s | fcvt_lu_s | fcvt_w_d
  | fcvt_wu_d | fcvt_l_d | fcvt_lu_d => exact .withRound s _ fun _ => .doneI s _ _ _
  | fsgnj_s | fsgnjn_s | fsgnjx_s | fmv_w_x => exact .advances rfl (.setS (.refl s) _ _)
  | fsgnj_d | fsgnjn_d | fsgnjx_d | fmv_d_x => exact .advances rfl (.setF (.refl s) _ _)
  | fmin_s | fmax_s => exact .doneS s _ _
  | fmin_d | fmax_d => exact .doneD s _ _
  | feq_s | flt_s | fle_s | feq_d | flt_d | fle_d => exact .doneI s _ _ _
  | la rd got hi lo => exact absurd machine (not_isMachine_la _ rd got hi lo)
  | li rd imm => exact absurd machine (not_isMachine_li _ rd imm)
  | beqz | bgez | bgt | bgtu | bgtz | ble | bleu
  | blez | bltz | bnez | call | csrc | csrci | csrr
  | csrs | csrsi | csrw | csrwi | fabs_d | fabs_s
  | fmv_d | fmv_s | fneg_d | fneg_s | frcsr | frflags
  | frrm | fscsr | fsflags | fsrm | j | jr | lla
  | mv | neg | negw | nop | not | rdcycle | rdcycleh
  | rdinstret | rdinstreth | rdtime | rdtimeh | ret | seqz
  | sext_w | sgtz | sltz | snez | tail => nomatch machine

end Sys2Proof.Machine
end

section
/-! PROOFS. A pseudoinstruction runs as its expansion (R510, R514, 48_pseudo.md), of which only the last instruction
can do more than write a register. -/

namespace Sys2Proof.Machine

open Sys2Proof

theorem runAll_singleton (i : Instr) (s : State) : runAll [i] s = exec i s := by
  unfold runAll
  cases exec i s <;> rfl

theorem andThen_congr (o : Outcome) {k k' : State → Outcome} (h : ∀ s, k s = k' s) : andThen o k = andThen o k' := by
  rw [funext h]

theorem runAll_pair (i j : Instr) (s : State) : runAll [i, j] s = andThen (exec i s) (exec j) :=
  andThen_congr _ (runAll_singleton j)

/-! ### `li` -/

theorem exec_liStep (rd : Reg) (step : LiStep) (s : State) : runLiStep rd step s = exec (step.instr rd) s := by
  cases step <;> rfl

theorem expand_li (xl : Xlen) (rd : Reg) (imm : Word) :
    (Instr.li rd imm).expand xl = (liSteps xl imm).map (LiStep.instr rd) := rfl

theorem runLi_eq_runAll (rd : Reg) (steps : List LiStep) (s : State) :
    runLi rd steps s = runAll (steps.map (LiStep.instr rd)) s := by
  induction steps generalizing s with
  | nil => rfl
  | cons step rest ih =>
    rw [List.map_cons, runAll, ← exec_liStep, runLi]
    exact andThen_congr _ ih

/-- Every step of `li` is a machine instruction. -/
theorem isMachine_liStep (xl : Xlen) (rd : Reg) (step : LiStep) : isMachine xl (step.instr rd) := by
  cases step <;> rfl

theorem addw_not_mem_liSteps32_rv32 (c : BitVec 32) (imm : BitVec 12) : .addw imm ∉ liSteps32 .rv32 c := by
  dsimp only [liSteps32]
  split
  · simp
  · split <;> simp

/-- The steps of `li` are well formed: `addiw` is among them only on RV64, and a shift by 12 exists on both. -/
theorem wf_liStep (cfg : Config) (rd : Reg) {imm : Word} {step : LiStep} (h : step ∈ liSteps cfg.xlen imm) :
    (step.instr rd).wf cfg = true := by
  cases step with
  | small | upper | add => rfl
  | shift => cases hx : cfg.xlen <;> simp [LiStep.instr, Instr.wf, Instr.available, Instr.tag, Config.hasExt,
      Config.hasWidth, Instr.operandsOk, hx, shamtOk]
  | addw lo =>
    cases hx : cfg.xlen with
    | rv64 => simp [LiStep.instr, Instr.wf, Instr.available, Instr.tag, Config.hasExt, Config.hasWidth,
        Instr.operandsOk, hx]
    | rv32 =>
      rw [hx] at h
      exact absurd h (addw_not_mem_liSteps32_rv32 _ lo)

/-! ### All pseudoinstructions -/

theorem exec_la_eq_runAll (rd : Reg) (got : Bool) (hi : BitVec 20) (lo : BitVec 12) (s : State) :
    exec (.la rd got hi lo) s = runAll ((Instr.la rd got hi lo).expand s.cfg.xlen) s := by
  change execLa rd got hi lo s = _
  cases got with
  | false => exact (runAll_pair (.auipc rd hi) (.addi rd rd lo) s).symm
  | true =>
    unfold execLa Instr.expand
    cases s.cfg.xlen with
    | rv32 => exact (runAll_pair (.auipc rd hi) (.lw rd rd lo) s).symm
    | rv64 => exact (runAll_pair (.auipc rd hi) (.ld rd rd lo) s).symm

theorem exec_eq_runAll (i : Instr) (s : State) : exec i s = runAll (i.expand s.cfg.xlen) s := by
  cases i with
  | li rd imm => exact runLi_eq_runAll rd _ s
  | call rd hi lo => exact (runAll_pair (.auipc rd hi) (.jalr rd rd lo) s).symm
  | tail hi lo => exact (runAll_pair (.auipc 6#5 hi) (.jalr 0#5 6#5 lo) s).symm
  | lla rd hi lo => exact (runAll_pair (.auipc rd hi) (.addi rd rd lo) s).symm
  | la rd got hi lo => exact exec_la_eq_runAll rd got hi lo s
  | _ => exact (runAll_singleton _ s).symm

theorem isMachine_of_mem_expand {xl : Xlen} {i j : Instr} (h : j ∈ i.expand xl) : isMachine xl j := by
  cases i with
  | li rd imm =>
    obtain ⟨step, -, rfl⟩ := List.mem_map.1 h
    exact isMachine_liStep xl rd step
  | call | tail | lla => rcases List.mem_pair.1 h with rfl | rfl <;> rfl
  | la rd got hi lo =>
    cases got <;> cases xl <;> rcases List.mem_pair.1 h with rfl | rfl <;> rfl
  | _ => rw [List.mem_singleton.1 h]; rfl

theorem wf_of_mem_expand {cfg : Config} {i j : Instr} (h : j ∈ i.expand cfg.xlen) (wf : i.wf cfg = true) :
    j.wf cfg = true := by
  cases i with
  | li rd imm =>
    obtain ⟨step, mem, rfl⟩ := List.mem_map.1 h
    exact wf_liStep cfg rd mem
  | call | tail | lla => rcases List.mem_pair.1 h with rfl | rfl <;> rfl
  | la rd got hi lo =>
    cases got with
    | false => rcases List.mem_pair.1 h with rfl | rfl <;> rfl
    | true =>
      unfold Instr.expand at h
      cases hx : cfg.xlen <;> rw [hx] at h <;> rcases List.mem_pair.1 h with rfl | rfl <;>
        simp [Instr.wf, Instr.available, Instr.tag, Config.hasExt, Config.hasWidth, Instr.operandsOk, hx]
  | frcsr | frflags | frrm | fscsr | fsflags | fsrm | rdcycleh | rdinstreth | rdtimeh =>
    rw [List.mem_singleton.1 h]; rfl
  | _ => rw [List.mem_singleton.1 h]; exact wf

/-- Settles O4, instruction by instruction: most expand to one instruction, and `li`, `call`, `tail`, `lla` and `la` to a
list that runs in order. -/
theorem pseudo_runs_expansion : Obligations.pseudo_runs_expansion := fun i s =>
  ⟨exec_eq_runAll i s, fun _ h => ⟨isMachine_of_mem_expand h, wf_of_mem_expand h⟩⟩

/-! ### The last instruction of an expansion -/

/-- The state differs from `s` in integer registers and the pc alone. -/
def State.OnlyXPc (s t : State) : Prop := t = { s with x := t.x, pc := t.pc }

/-- An instruction that only writes a register and goes on: what comes before the last one of an expansion. -/
def Quiet (i : Instr) : Prop := ∀ s, ∃ t, exec i s = .next t ∧ s.OnlyXPc t

theorem quiet_of_doneX {i : Instr} {rd : Reg} {v : State → Word}
    (h : ∀ s, exec i s = s.doneX 4#64 rd (v s)) : Quiet i :=
  fun s => ⟨(s.setX rd (v s)).advance 4#64, h s, rfl⟩

theorem quiet_auipc (rd : Reg) (hi : BitVec 20) : Quiet (.auipc rd hi) := quiet_of_doneX fun _ => rfl

theorem quiet_liStep (rd : Reg) (step : LiStep) : Quiet (step.instr rd) := by
  cases step <;> exact quiet_of_doneX fun _ => rfl

theorem runAll_append_quiet {is : List Instr} (quiet : ∀ i ∈ is, Quiet i) (j : Instr) (s : State) :
    ∃ t, runAll (is ++ [j]) s = exec j t ∧ s.OnlyXPc t := by
  induction is generalizing s with
  | nil => exact ⟨s, runAll_singleton j s, rfl⟩
  | cons i rest ih =>
    obtain ⟨u, ran, su⟩ := quiet i List.mem_cons_self s
    obtain ⟨t, rest_ran, ut⟩ := ih (fun k hk => quiet k (List.mem_cons_of_mem i hk)) u
    refine ⟨t, ?_, ?_⟩
    · rw [List.cons_append, runAll, ran, andThen_next_eq, rest_ran]
    · unfold State.OnlyXPc at *
      rw [ut, su]

theorem liSteps32_ne_nil (xl : Xlen) (c : BitVec 32) : liSteps32 xl c ≠ [] := by
  dsimp only [liSteps32]
  split
  · simp
  · split
    · simp
    · cases xl <;> simp

theorem liSteps64_ne_nil (fuel : Nat) (c : Word) : liSteps64 fuel c ≠ [] := by
  induction fuel generalizing c with
  | zero => exact liSteps32_ne_nil _ _
  | succ fuel ih =>
    unfold liSteps64
    split
    · exact liSteps32_ne_nil _ _
    · exact fun h => ih _ (List.append_eq_nil_iff.1 h).1

theorem liSteps_ne_nil (xl : Xlen) (imm : Word) : liSteps xl imm ≠ [] := by
  cases xl with
  | rv32 => exact liSteps32_ne_nil .rv32 _
  | rv64 => exact liSteps64_ne_nil 3 imm

/-- An expansion is one instruction or ends in one after quiet ones. -/
theorem expand_eq_append (xl : Xlen) (i : Instr) :
    ∃ is j, i.expand xl = is ++ [j] ∧ (∀ k ∈ is, Quiet k) ∧ (isCsrInstr j → isCsrInstr i) := by
  cases i with
  | li rd imm =>
    obtain ⟨steps, last, eq⟩ := (List.eq_nil_or_concat (liSteps xl imm)).resolve_left (liSteps_ne_nil xl imm)
    refine ⟨steps.map (LiStep.instr rd), last.instr rd, by simp [expand_li, eq], fun k hk => ?_, ?_⟩
    · obtain ⟨step, -, rfl⟩ := List.mem_map.1 hk
      exact quiet_liStep rd step
    · cases last <;> exact False.elim
  | call rd hi lo =>
    exact ⟨[.auipc rd hi], .jalr rd rd lo, rfl, by simpa using quiet_auipc rd hi, False.elim⟩
  | tail hi lo =>
    exact ⟨[.auipc 6#5 hi], .jalr 0#5 6#5 lo, rfl, by simpa using quiet_auipc 6#5 hi, False.elim⟩
  | lla rd hi lo =>
    exact ⟨[.auipc rd hi], .addi rd rd lo, rfl, by simpa using quiet_auipc rd hi, False.elim⟩
  | la rd got hi lo =>
    cases got with
    | false => exact ⟨[.auipc rd hi], .addi rd rd lo, rfl, by simpa using quiet_auipc rd hi, False.elim⟩
    | true =>
      cases xl with
      | rv32 => exact ⟨[.auipc rd hi], .lw rd rd lo, rfl, by simpa using quiet_auipc rd hi, False.elim⟩
      | rv64 => exact ⟨[.auipc rd hi], .ld rd rd lo, rfl, by simpa using quiet_auipc rd hi, False.elim⟩
  | _ => exact ⟨[], _, rfl, by simp, fun h => h⟩

/-- Every instruction ends as a machine instruction does, from a state that differs in registers `x` and the pc. -/
theorem exec_eq_exec_machine (i : Instr) (s : State) :
    ∃ j t, exec i s = exec j t ∧ isMachine s.cfg.xlen j ∧ (isCsrInstr j → isCsrInstr i) ∧ s.OnlyXPc t := by
  obtain ⟨is, j, eq, quiet, csr⟩ := expand_eq_append s.cfg.xlen i
  obtain ⟨t, ran, st⟩ := runAll_append_quiet quiet j s
  refine ⟨j, t, ?_, isMachine_of_mem_expand (i := i) (by simp [eq]), csr, st⟩
  rw [exec_eq_runAll, eq, ran]

theorem State.OnlyXPc.cfg_eq {s t : State} (h : s.OnlyXPc t) : t.cfg = s.cfg := by rw [h]

end Sys2Proof.Machine
end

section
/-! PROOFS. What every instruction and every step keeps: the parameters, the form of memory, the flags, and in user
mode the state of the other modes. -/

namespace Sys2Proof.Machine

open Sys2Proof

theorem State.Works.cfg_eq {s t : State} (h : s.Works t) : t.cfg = s.cfg := by rw [h.frame]

/-- Every instruction ends in one of the ways of `Ending`, from a state that differs in registers `x` and the pc. -/
theorem exec_ends (i : Instr) (s : State) :
    ∃ j t, Ending j t (exec i s) ∧ s.OnlyXPc t ∧ (isCsrInstr j → isCsrInstr i) := by
  obtain ⟨j, t, eq, machine, csr, st⟩ := exec_eq_exec_machine i s
  exact ⟨j, t, eq ▸ exec_ending t j (st.cfg_eq ▸ machine), st, csr⟩

/-! ### Refusals and the parameters -/

/-- A next state has the parameters of the state before. -/
theorem Ending.cfg_eq {i : Instr} {s t : State} {o : Outcome} (h : Ending i s o) (next : o = .next t) :
    t.cfg = s.cfg := by
  cases h with
  | raises e => exact (State.raise_next next).2 ▸ rfl
  | advances _ works => cases next; exact works.cfg_eq
  | jumps _ works => cases next; exact works.cfg_eq
  | @accesses _ writes => cases next; cases writes <;> simp
  | returnsM | returnsS | idles => cases next; rfl

/-- An outcome is a next state, or under TRAP = halt an exception. -/
theorem Ending.next_or_trapped {i : Instr} {s : State} {o : Outcome} (h : Ending i s o) :
    (∃ t, o = .next t) ∨ s.cfg.trap = .halt ∧ ∃ e pc, o = .fault (.trapped e pc) := by
  cases h with
  | raises e =>
    rcases s.raise_cases e with ⟨-, h⟩ | ⟨halt, h⟩
    · exact .inl ⟨_, h⟩
    · exact .inr ⟨halt, e, s.pc, h⟩
  | advances | jumps | accesses | returnsM | returnsS | idles => exact .inl ⟨_, rfl⟩

/-- A step takes an interrupt, or does what an instruction does from its beginning. -/
theorem step_ends (s : State) :
    (∃ i, step s = .next (s.begin.takeIrq i)) ∨
    ∃ i t, Ending i t (step s) ∧ s.begin.OnlyXPc t := by
  rcases step_cases s with ⟨i, -, h⟩ | ⟨-, e, -, h⟩ | ⟨-, i, -, h⟩
  · exact .inl ⟨i, h⟩
  · exact .inr ⟨.nop, s.begin, h ▸ .raises e, rfl⟩
  · obtain ⟨j, t, ending, st, -⟩ := exec_ends i s.begin
    exact .inr ⟨j, t, h ▸ ending, st⟩

/-- Settles O8, since a step that does not end in a next state ends in a trap under TRAP = halt. -/
theorem step_never_stuck : Obligations.step_never_stuck := by
  intro s
  rcases step_ends s with ⟨i, h⟩ | ⟨j, u, ending, su⟩
  · exact ⟨fun t ht => by rw [h] at ht; cases ht; exact s.begin_cfg, fun _ => ⟨_, h⟩, fun _ => .inl ⟨_, h⟩⟩
  · have cfg : u.cfg = s.cfg := su.cfg_eq.trans s.begin_cfg
    refine ⟨fun t ht => (ending.cfg_eq ht).trans cfg, fun machine => ?_, fun _ => ?_⟩
    · exact ending.next_or_trapped.resolve_right fun halt => by simp [cfg, machine] at halt
    · exact ending.next_or_trapped.imp id And.right

/-! ### The form of memory -/

theorem State.memoryInv_congr {s t : State} (cfg : t.cfg = s.cfg) (mem : t.mem = s.mem) (stale : t.stale = s.stale) :
    t.MemoryInv ↔ s.MemoryInv := by
  unfold State.MemoryInv State.modulus
  rw [cfg, mem, stale]

theorem Ending.keeps_memoryInv {i : Instr} {s t : State} {o : Outcome} (h : Ending i s o)
    (inv : s.MemoryInv) (next : o = .next t) : t.MemoryInv := by
  cases h with
  | raises e => obtain ⟨-, rfl⟩ := State.raise_next next; exact inv
  | advances _ works => cases next; exact works.memory inv
  | jumps _ works => cases next; exact works.memory inv
  | @accesses _ writes =>
    cases next
    refine (State.memoryInv_congr ?_ ?_ ?_).2 inv <;> cases writes <;> simp
  | returnsM | returnsS | idles => cases next; exact inv

/-- Settles O11, since every way to end a step keeps the form of memory. -/
theorem step_keeps_memory_inv : Obligations.step_keeps_memory_inv := by
  intro s t inv next
  have begun : s.begin.MemoryInv := (State.memoryInv_congr s.begin_cfg s.begin_mem s.begin_stale).2 inv
  rcases step_ends s with ⟨i, h⟩ | ⟨j, u, ending, su⟩
  · rw [h] at next; cases next; exact begun
  · refine ending.keeps_memoryInv ?_ next
    rw [su]; exact begun

/-! ### The accrued flags -/

theorem fflags_sticky (fcsr : BitVec 8) (fl : BitVec 5) :
    (fcsr ||| fl.setWidth 8).extractLsb' 0 5 ||| fcsr.extractLsb' 0 5 = (fcsr ||| fl.setWidth 8).extractLsb' 0 5 ∧
      (fcsr ||| fl.setWidth 8).extractLsb' 5 3 = fcsr.extractLsb' 5 3 := by
  constructor
  · ext i hi
    simpa using .inl
  · ext i hi
    simp

theorem State.Works.fflags_frm {s t : State} (h : s.Works t) :
    t.fflags ||| s.fflags = t.fflags ∧ t.frm = s.frm := by
  obtain ⟨fl, eq⟩ := h.flags
  unfold State.fflags State.frm
  rw [eq]
  exact fflags_sticky s.fcsr fl

/-- Only a CSR access clears a flag or changes the rounding mode. -/
theorem Ending.fflags_frm {i : Instr} {s t : State} {o : Outcome} (h : Ending i s o) (next : o = .next t)
    (noAccess : ¬isCsrInstr i) : t.fflags ||| s.fflags = t.fflags ∧ t.frm = s.frm := by
  cases h with
  | raises e => obtain ⟨-, rfl⟩ := State.raise_next next; exact (State.Works.refl s).fflags_frm
  | advances _ works => cases next; exact works.fflags_frm
  | jumps _ works => cases next; exact works.fflags_frm
  | accesses _ _ _ _ access => exact absurd access noAccess
  | returnsM | returnsS | idles => cases next; exact (State.Works.refl s).fflags_frm

/-- Settles O54, since every way to end but that of a CSR access only adds flags. -/
theorem flags_are_sticky : Obligations.flags_are_sticky := by
  intro i s t noAccess next
  obtain ⟨j, u, ending, su, access⟩ := exec_ends i s
  have kept := ending.fflags_frm next fun h => noAccess (access h)
  have fcsr : u.fcsr = s.fcsr := by rw [su]
  unfold State.fflags State.frm at *
  rwa [fcsr] at kept

/-! ### User mode -/

/-- The CSRs that user mode can name: `fcsr` with its windows, and the counters. -/
def Csr.isUser : Csr → Bool
  | .fflags | .frm | .fcsr | .counter _ | .counterHigh _ => true
  | _ => false

/-- A CSR that user mode cannot name has bits 9:8 of its address set to a higher mode (R240, 42_system.md). -/
theorem isUser_of_csrNamed {a : BitVec 12} {c : Csr} (named : csrNamed a = some c)
    (low : a.extractLsb' 8 2 = 0#2) : c.isUser = true := by
  unfold csrNamed at named
  split at named <;> cases named <;> revert low <;> decide

theorem State.csrFor_eq_some {s : State} {a : BitVec 12} {writes : Bool} {c : Csr} :
    s.csrFor a writes = some c ↔ csrAt s.cfg a = some c ∧ csrAllowed s.priv a writes = true := by
  unfold State.csrFor
  cases csrAt s.cfg a with
  | none => simp
  | some d => by_cases h : csrAllowed s.priv a writes = true <;> simp [h]

theorem csrAt_eq_some {cfg : Config} {a : BitVec 12} {c : Csr} :
    csrAt cfg a = some c ↔ csrNamed a = some c ∧ csrExists cfg c = true := by
  unfold csrAt
  cases csrNamed a with
  | none => simp
  | some d =>
    by_cases h : csrExists cfg d = true
    · simp only [h, if_true, Option.some.injEq]
      exact ⟨fun e => ⟨e, e ▸ h⟩, And.left⟩
    · simp only [h]
      exact ⟨nofun, fun ⟨e, h'⟩ => absurd (Option.some.inj e ▸ h') h⟩

/-- User mode accesses no CSR of another mode. -/
theorem State.isUser_of_csrFor {s : State} {a : BitVec 12} {writes : Bool} {c : Csr} (user : s.priv = .user)
    (h : s.csrFor a writes = some c) : c.isUser = true := by
  obtain ⟨named, allowed⟩ := State.csrFor_eq_some.1 h
  refine isUser_of_csrNamed (csrAt_eq_some.1 named).1 ?_
  simp only [csrAllowed, user, privCode, Bool.and_eq_true, Bool.not_eq_true', BitVec.ult] at allowed
  apply BitVec.eq_of_toNat_eq
  simpa using allowed.1

theorem State.writeCsr_isUser (s : State) {c : Csr} (h : c.isUser = true) (v : Word) :
    s.writeCsr c v = { s with fcsr := (s.writeCsr c v).fcsr } := by
  cases c with
  | fflags | frm | fcsr | counter | counterHigh => rfl
  | _ => nomatch h

/-- What user mode keeps of the other modes: all of it, unless it enters a trap. -/
def State.Isolated (s t : State) : Prop :=
  s.SameCsr t ∧ t.sie = s.sie ∧ t.spie = s.spie ∧ t.spp = s.spp ∧
    (s.SameTrap t ∨
      t.priv = .machine ∧ t.mpp = .user ∧ t.mie = false ∧ t.mpie = s.mie ∧ t.pc.toNat = s.handler)

theorem State.isolated_of_frame {s t : State}
    (frame : t = { s with
      x := t.x, f := t.f, fcsr := t.fcsr, reservation := t.reservation, mem := t.mem, stale := t.stale,
      ioTrace := t.ioTrace, pc := t.pc, idle := t.idle }) : s.Isolated t := by
  rw [frame]
  exact ⟨⟨rfl, rfl, rfl, rfl, rfl⟩, rfl, rfl, rfl, .inl ⟨rfl, rfl, rfl, rfl, rfl, rfl, rfl, rfl, rfl, rfl⟩⟩

theorem State.raise_isolated {s t : State} {e : Exc} (user : s.priv = .user) (next : s.raise e = .next t) :
    s.Isolated t := by
  obtain ⟨-, rfl⟩ := State.raise_next next
  refine ⟨⟨rfl, rfl, rfl, rfl, rfl⟩, rfl, rfl, rfl, .inr ⟨rfl, user, rfl, rfl, ?_⟩⟩
  rw [← s.trapBase_toNat]
  exact congrArg BitVec.toNat (truncX_truncX _ _)

theorem Ending.isolated {i : Instr} {s t : State} {o : Outcome} (h : Ending i s o) (user : s.priv = .user)
    (next : o = .next t) : s.Isolated t := by
  cases h with
  | raises e => exact State.raise_isolated user next
  | advances _ works => cases next; apply State.isolated_of_frame; rw [State.advance, State.setPc, works.frame]
  | jumps _ works => cases next; apply State.isolated_of_frame; rw [State.setPc, works.frame]
  | @accesses _ writes c _ _ _ _ allowed =>
    cases next
    apply State.isolated_of_frame
    cases writes with
    | false => rfl
    | true => rw [if_pos rfl, s.writeCsr_isUser (State.isUser_of_csrFor user allowed)]; rfl
  | returnsM machine => simp [user] at machine
  | returnsS _ notUser => exact absurd user notUser
  | idles => cases next; exact State.isolated_of_frame rfl

/-- Settles O42, since every way to end is isolated or enters a trap. -/
theorem user_mode_isolated : Obligations.user_mode_isolated := by
  intro i s t user next
  obtain ⟨j, u, ending, su, -⟩ := exec_ends i s
  have isolated := ending.isolated (by rw [su]; exact user) next
  rw [su] at isolated
  exact isolated

end Sys2Proof.Machine
end

section
/-! PROOFS. The integer computations (40_rvi_compute.md, 43_rvm.md): each operand stands for a number modulo `2^XLEN`, and each
operation of the model computes on what its operands stand for. -/

namespace Sys2Proof.Machine

open Sys2Proof

/-! ### What number a word stands for -/

/-- The XLEN low bits of `w` are those of the number `v`. -/
def State.Holds (s : State) (w : Word) (v : Int) : Prop := w.setWidth s.cfg.xlen.bits = BitVec.ofInt _ v

theorem Xlen.bits_le (xl : Xlen) : xl.bits ≤ 64 := by cases xl <;> decide

theorem setWidth_ofInt {n m : Nat} (h : n ≤ m) (v : Int) : (BitVec.ofInt m v).setWidth n = BitVec.ofInt n v := by
  apply BitVec.eq_of_toNat_eq
  have divides : (2 ^ n : Int) ∣ 2 ^ m := pow_dvd_pow 2 h
  rw [BitVec.toNat_setWidth, BitVec.toNat_ofInt, BitVec.toNat_ofInt]
  zify
  rw [Int.toNat_of_nonneg (Int.emod_nonneg _ (by positivity)), Int.toNat_of_nonneg (Int.emod_nonneg _ (by positivity))]
  exact Int.emod_emod_of_dvd _ divides

theorem State.holds_ofInt (s : State) (v : Int) : s.Holds (BitVec.ofInt 64 v) v :=
  setWidth_ofInt (Xlen.bits_le _) v

theorem setWidth_truncX (xl : Xlen) (w : Word) : (truncX xl w).setWidth xl.bits = w.setWidth xl.bits := by
  cases xl with
  | rv32 => exact BitVec.setWidth_setWidth_of_le _ (by decide)
  | rv64 => rfl

theorem State.holds_truncX {s : State} {w : Word} {v : Int} (h : s.Holds w v) : s.Holds (truncX s.cfg.xlen w) v :=
  (setWidth_truncX _ w).trans h

/-- A register that gets the word holds the number modulo `2^XLEN`. -/
theorem State.truncX_toNat_of_holds {s : State} {w : Word} {v : Int} (h : s.Holds w v) :
    (truncX s.cfg.xlen w).toNat = s.wrap v := by
  rw [truncX_toNat, ← BitVec.toNat_setWidth, h, BitVec.toNat_ofInt]
  rfl

theorem State.holds_readX (s : State) (r : Reg) : s.Holds (s.readX r) (s.ux r) := by
  rw [State.Holds, BitVec.ofInt_natCast, ← s.readX_setWidth_toNat, BitVec.ofNat_toNat, BitVec.setWidth_eq]

theorem State.holds_pc (s : State) : s.Holds s.pc s.upc := by
  rw [State.Holds, State.upc, BitVec.ofInt_natCast, BitVec.ofNat_toNat]

theorem State.holds_sextX (s : State) {n : Nat} (b : BitVec n) : s.Holds (sextX s.cfg.xlen b) b.toInt :=
  s.holds_truncX (s.holds_ofInt _)

theorem State.holds_signExtend (s : State) {n : Nat} (b : BitVec n) : s.Holds (b.signExtend 64) b.toInt :=
  s.holds_ofInt _

theorem State.holds_zextX (s : State) {n : Nat} (b : BitVec n) : s.Holds (zextX b) b.toNat := by
  have eq : zextX b = BitVec.ofInt 64 b.toNat := by rw [zextX, BitVec.ofInt_natCast, BitVec.ofNat_toNat]
  rw [eq]
  exact s.holds_ofInt _

theorem State.holds_zero (s : State) : s.Holds 0#64 0 := s.holds_ofInt 0

theorem toInt_append_zeros {n : Nat} (b : BitVec n) (k : Nat) (pos : n ≠ 0) : (b ++ 0#k).toInt = b.toInt * 2 ^ k := by
  simp [BitVec.toInt_append, pos, mul_comm]

theorem toNat_append_zeros {n : Nat} (b : BitVec n) (k : Nat) : (b ++ 0#k).toNat = b.toNat * 2 ^ k := by
  simp [BitVec.toNat_append, Nat.shiftLeft_eq]

/-- Immediates over `k` zero bits, sign-extended. -/
theorem State.holds_sextX_append (s : State) {n : Nat} (b : BitVec n) (k : Nat) (pos : n ≠ 0) :
    s.Holds (sextX s.cfg.xlen (b ++ 0#k)) (b.toInt * 2 ^ k) :=
  toInt_append_zeros b k pos ▸ s.holds_sextX _

/-- Immediates over `k` zero bits, zero-extended. -/
theorem State.holds_zextX_append (s : State) {n : Nat} (b : BitVec n) (k : Nat) :
    s.Holds (zextX (b ++ 0#k)) ((b.toNat * 2 ^ k : Nat) : Int) :=
  toNat_append_zeros b k ▸ s.holds_zextX _

theorem State.holds_boolWord (s : State) (b : Bool) {p : Prop} [Decidable p] (h : b = true ↔ p) :
    s.Holds (boolWord b) (if p then 1 else 0) := by
  by_cases hp : p
  · rw [if_pos hp, h.2 hp]; exact s.holds_ofInt 1
  · rw [if_neg hp, Bool.eq_false_iff.2 (mt h.1 hp)]; exact s.holds_ofInt 0

theorem State.holds_add {s : State} {a b : Word} {u v : Int} (ha : s.Holds a u) (hb : s.Holds b v) :
    s.Holds (a + b) (u + v) := by
  rw [State.Holds, BitVec.setWidth_add _ _ (Xlen.bits_le _), ha, hb, BitVec.ofInt_add]

/-! ### What the operations of the model compute -/

theorem ofInt_sub {w : Nat} (u v : Int) : BitVec.ofInt w (u - v) = BitVec.ofInt w u - BitVec.ofInt w v := by
  rw [Int.sub_eq_add_neg, BitVec.ofInt_add, BitVec.ofInt_neg, BitVec.sub_eq_add_neg]


theorem State.holds_liftX {s : State} {op : (w : Nat) → BitVec w → BitVec w → BitVec w} {a b : Word} {v : Int}
    (result : op s.cfg.xlen.bits (a.setWidth _) (b.setWidth _) = BitVec.ofInt _ v) :
    s.Holds (liftX s.cfg.xlen op a b) v := by
  rw [State.Holds, ← result]
  cases s.cfg.xlen with
  | rv32 => exact BitVec.setWidth_setWidth_of_le _ (by decide)
  | rv64 => exact congrArg₂ (op 64) (BitVec.setWidth_eq _) (BitVec.setWidth_eq _) ▸ BitVec.setWidth_eq _

theorem State.holds_liftW {s : State} {op : BitVec 32 → BitVec 32 → BitVec 32} {a b : Word} {v : Int}
    (result : op (a.setWidth 32) (b.setWidth 32) = BitVec.ofInt 32 v) : s.Holds (liftW op a b) (word32 v) := by
  rw [liftW, result, word32, ← BitVec.toInt_ofInt]
  exact s.holds_signExtend _

theorem testX_eq (xl : Xlen) (op : (w : Nat) → BitVec w → BitVec w → Bool) (a b : Word) :
    testX xl op a b = op xl.bits (a.setWidth _) (b.setWidth _) := by
  cases xl with
  | rv32 => rfl
  | rv64 => exact (congrArg₂ (op 64) (BitVec.setWidth_eq _) (BitVec.setWidth_eq _)).symm

theorem shamtX_eq (xl : Xlen) (v : Word) : shamtX xl v = v.toNat % xl.bits := by
  cases xl <;> simp [shamtX, Xlen.bits]

theorem shamtW_eq (v : Word) : shamtW v = v.toNat % 32 := by
  simp [shamtW]

variable {s : State} {a b : Word}

theorem State.holds_liftX_add {u v : Int} (ha : s.Holds a u) (hb : s.Holds b v) :
    s.Holds (liftX s.cfg.xlen (fun _ a b => a + b) a b) (u + v) :=
  s.holds_liftX (by rw [ha, hb, BitVec.ofInt_add])

theorem State.holds_liftX_sub {u v : Int} (ha : s.Holds a u) (hb : s.Holds b v) :
    s.Holds (liftX s.cfg.xlen (fun _ a b => a - b) a b) (u - v) :=
  s.holds_liftX (by rw [ha, hb, ofInt_sub])

theorem State.holds_liftX_mul {u v : Int} (ha : s.Holds a u) (hb : s.Holds b v) :
    s.Holds (liftX s.cfg.xlen (fun _ a b => a * b) a b) (u * v) :=
  s.holds_liftX (by rw [ha, hb, BitVec.ofInt_mul])

theorem ofNat_toNat_self {w : Nat} (b : BitVec w) : BitVec.ofInt w b.toNat = b := by
  rw [BitVec.ofInt_natCast, BitVec.ofNat_toNat, BitVec.setWidth_eq]

theorem State.setWidth_toNat_of_holds {w : Word} {v : Int} (h : s.Holds w v) :
    (w.setWidth s.cfg.xlen.bits).toNat = s.wrap v := by
  rw [h, BitVec.toNat_ofInt]
  rfl

/-- A bitwise operation on two registers. -/
theorem State.holds_bitwise (s : State) {op : (w : Nat) → BitVec w → BitVec w → BitVec w} {f : Nat → Nat → Nat}
    (bitwise : ∀ w (a b : BitVec w), (op w a b).toNat = f a.toNat b.toNat) (r1 r2 : Reg) :
    s.Holds (liftX s.cfg.xlen op (s.readX r1) (s.readX r2)) (f (s.ux r1) (s.ux r2) : Nat) := by
  apply s.holds_liftX
  rw [← s.readX_setWidth_toNat, ← s.readX_setWidth_toNat, ← bitwise, ofNat_toNat_self]

/-- A bitwise operation on a register and a sign-extended immediate. -/
theorem State.holds_bitwise_imm (s : State) {op : (w : Nat) → BitVec w → BitVec w → BitVec w} {f : Nat → Nat → Nat}
    (bitwise : ∀ w (a b : BitVec w), (op w a b).toNat = f a.toNat b.toNat) (r : Reg) {n : Nat} (imm : BitVec n) :
    s.Holds (liftX s.cfg.xlen op (s.readX r) (sextX s.cfg.xlen imm)) (f (s.ux r) (s.wrap imm.toInt) : Nat) := by
  apply s.holds_liftX
  rw [← s.readX_setWidth_toNat, ← State.setWidth_toNat_of_holds (s.holds_sextX imm), ← bitwise, ofNat_toNat_self]

theorem State.sextX_setWidth_toInt (s : State) (imm : BitVec 12) :
    ((sextX s.cfg.xlen imm).setWidth s.cfg.xlen.bits).toInt = imm.toInt := by
  rw [s.holds_sextX imm, BitVec.toInt_ofInt]
  have low := imm.le_toInt
  have high := imm.toInt_lt
  apply Int.bmod_eq_of_le <;> cases s.cfg.xlen <;> simp [Xlen.bits] at * <;> omega

theorem ofInt_shiftLeft {w : Nat} (v : BitVec w) (n : Nat) : v <<< n = BitVec.ofInt w (v.toNat * 2 ^ n) := by
  rw [← Nat.cast_ofNat, ← Nat.cast_pow, ← Nat.cast_mul, BitVec.ofInt_natCast]
  apply BitVec.eq_of_toNat_eq
  simp [Nat.shiftLeft_eq]

theorem ofInt_shiftRight {w : Nat} (v : BitVec w) (n : Nat) : v >>> n = BitVec.ofInt w (v.toNat / 2 ^ n) := by
  rw [← ofNat_toNat_self (v >>> n), BitVec.toNat_ushiftRight, Nat.shiftRight_eq_div_pow]
  push_cast
  rfl

theorem toInt_sshiftRight_eq_div {w : Nat} (v : BitVec w) (n : Nat) : (v.sshiftRight n).toInt = v.toInt / 2 ^ n := by
  rw [BitVec.toInt_sshiftRight, Int.shiftRight_eq_div_pow]
  push_cast
  rfl

theorem ofInt_sshiftRight {w : Nat} (v : BitVec w) (n : Nat) :
    v.sshiftRight n = BitVec.ofInt w (v.toInt / 2 ^ n) := by
  rw [← toInt_sshiftRight_eq_div, BitVec.ofInt_toInt]

theorem State.holds_sllX (s : State) (r : Reg) (n : Nat) :
    s.Holds (sllX s.cfg.xlen (s.readX r) n) (s.ux r * 2 ^ n) :=
  s.holds_liftX (by rw [ofInt_shiftLeft, s.readX_setWidth_toNat])

theorem State.holds_srlX (s : State) (r : Reg) (n : Nat) :
    s.Holds (srlX s.cfg.xlen (s.readX r) n) (s.ux r / 2 ^ n) :=
  s.holds_liftX (by rw [ofInt_shiftRight, s.readX_setWidth_toNat])

theorem State.holds_sraX (s : State) (r : Reg) (n : Nat) :
    s.Holds (sraX s.cfg.xlen (s.readX r) n) (s.sx r / 2 ^ n) :=
  s.holds_liftX (by rw [ofInt_sshiftRight, s.readX_setWidth_toInt])

theorem low32_eq_ofInt (a : Word) : a.setWidth 32 = BitVec.ofInt 32 ((a.setWidth 32).toNat : Int) :=
  (ofNat_toNat_self _).symm

theorem State.holds_sllW (s : State) (r : Reg) (n : Nat) :
    s.Holds (liftW (fun v _ => v <<< n) (s.readX r) 0#64) (word32 (s.ux32 r * 2 ^ n)) :=
  s.holds_liftW (by rw [ofInt_shiftLeft, s.readX_low32_toNat])

theorem State.holds_srlW (s : State) (r : Reg) (n : Nat) :
    s.Holds (liftW (fun v _ => v >>> n) (s.readX r) 0#64) (word32 (s.ux32 r / 2 ^ n)) :=
  s.holds_liftW (by rw [ofInt_shiftRight, s.readX_low32_toNat])

theorem State.holds_sraW (s : State) (r : Reg) (n : Nat) :
    s.Holds (liftW (fun v _ => v.sshiftRight n) (s.readX r) 0#64) (s.sx32 r / 2 ^ n) := by
  rw [← s.readX_low32_toInt, ← toInt_sshiftRight_eq_div]
  exact s.holds_signExtend _

theorem State.low32_readX (s : State) (r : Reg) : (s.readX r).setWidth 32 = BitVec.ofInt 32 (s.ux32 r) := by
  rw [← s.readX_low32_toNat, ofNat_toNat_self]

theorem State.holds_addW {r : Reg} {v : Int} (hb : b.setWidth 32 = BitVec.ofInt 32 v) :
    s.Holds (liftW (fun a b => a + b) (s.readX r) b) (word32 (s.ux32 r + v)) :=
  s.holds_liftW (by rw [hb, s.low32_readX, BitVec.ofInt_add])

theorem State.holds_subW (s : State) (r1 r2 : Reg) :
    s.Holds (liftW (fun a b => a - b) (s.readX r1) (s.readX r2)) (word32 (s.ux32 r1 - s.ux32 r2)) :=
  s.holds_liftW (by rw [s.low32_readX, s.low32_readX, ofInt_sub])

theorem State.holds_mulW (s : State) (r1 r2 : Reg) :
    s.Holds (liftW (fun a b => a * b) (s.readX r1) (s.readX r2)) (word32 (s.ux32 r1 * s.ux32 r2)) :=
  s.holds_liftW (by rw [s.low32_readX, s.low32_readX, BitVec.ofInt_mul])

theorem low32_signExtend {n : Nat} (imm : BitVec n) : (imm.signExtend 64).setWidth 32 = BitVec.ofInt 32 imm.toInt :=
  setWidth_ofInt (by decide) _

/-! ### Comparisons -/

theorem State.slt_readX (s : State) (r1 r2 : Reg) :
    testX s.cfg.xlen (fun _ a b => a.slt b) (s.readX r1) (s.readX r2) = true ↔ s.sx r1 < s.sx r2 := by
  rw [testX_eq, BitVec.slt_iff_toInt_lt, s.readX_setWidth_toInt, s.readX_setWidth_toInt]

theorem State.ult_readX (s : State) (r1 r2 : Reg) :
    testX s.cfg.xlen (fun _ a b => a.ult b) (s.readX r1) (s.readX r2) = true ↔ s.ux r1 < s.ux r2 := by
  rw [testX_eq, BitVec.ult_iff_lt, BitVec.lt_def, s.readX_setWidth_toNat, s.readX_setWidth_toNat]

theorem State.slt_imm (s : State) (r : Reg) (imm : BitVec 12) :
    testX s.cfg.xlen (fun _ a b => a.slt b) (s.readX r) (sextX s.cfg.xlen imm) = true ↔ s.sx r < imm.toInt := by
  rw [testX_eq, BitVec.slt_iff_toInt_lt, s.readX_setWidth_toInt, s.sextX_setWidth_toInt]

theorem State.ult_imm (s : State) (r : Reg) (imm : BitVec 12) :
    testX s.cfg.xlen (fun _ a b => a.ult b) (s.readX r) (sextX s.cfg.xlen imm) = true ↔ s.ux r < s.wrap imm.toInt := by
  rw [testX_eq, BitVec.ult_iff_lt, BitVec.lt_def, s.readX_setWidth_toNat, State.setWidth_toNat_of_holds (s.holds_sextX imm)]

/-! ### The instructions -/

theorem State.doneX_endsX_of_holds {w : Word} {v : Int} (h : s.Holds w v) (n : Nat) (rd : Reg) :
    s.EndsX (s.doneX (BitVec.ofNat 64 n) rd w) n rd v :=
  s.doneX_endsX rd n (State.truncX_toNat_of_holds h)

/-- Settles O14, each result by what its operands stand for. -/
theorem add_sub_upper : Obligations.add_sub_upper := fun s rd rs1 rs2 imm up =>
  ⟨s.doneX_endsX_of_holds (s.holds_liftX_add (s.holds_readX rs1) (s.holds_readX rs2)) 4 rd,
    s.doneX_endsX_of_holds (s.holds_liftX_add (s.holds_readX rs1) (s.holds_sextX imm)) 4 rd,
    s.doneX_endsX_of_holds (s.holds_liftX_sub (s.holds_readX rs1) (s.holds_readX rs2)) 4 rd,
    s.doneX_endsX_of_holds (s.holds_sextX_append up 12 (by decide)) 4 rd,
    s.doneX_endsX_of_holds (s.holds_truncX (s.holds_add s.holds_pc (s.holds_sextX_append up 12 (by decide)))) 4 rd⟩

theorem toNat_and_eq (w : Nat) (a b : BitVec w) : (a &&& b).toNat = a.toNat &&& b.toNat := BitVec.toNat_and ..
theorem toNat_or_eq (w : Nat) (a b : BitVec w) : (a ||| b).toNat = a.toNat ||| b.toNat := BitVec.toNat_or ..
theorem toNat_xor_eq (w : Nat) (a b : BitVec w) : (a ^^^ b).toNat = a.toNat ^^^ b.toNat := BitVec.toNat_xor ..

/-- Settles O15, from the calculus of `Holds`. -/
theorem bitwise_and_compare : Obligations.bitwise_and_compare := fun s rd rs1 rs2 imm =>
  ⟨s.doneX_endsX_of_holds (s.holds_bitwise toNat_and_eq rs1 rs2) 4 rd,
    s.doneX_endsX_of_holds (s.holds_bitwise toNat_or_eq rs1 rs2) 4 rd,
    s.doneX_endsX_of_holds (s.holds_bitwise toNat_xor_eq rs1 rs2) 4 rd,
    s.doneX_endsX_of_holds (s.holds_bitwise_imm toNat_and_eq rs1 imm) 4 rd,
    s.doneX_endsX_of_holds (s.holds_bitwise_imm toNat_or_eq rs1 imm) 4 rd,
    s.doneX_endsX_of_holds (s.holds_bitwise_imm toNat_xor_eq rs1 imm) 4 rd,
    s.doneX_endsX_of_holds (s.holds_boolWord _ (s.slt_readX rs1 rs2)) 4 rd,
    s.doneX_endsX_of_holds (s.holds_boolWord _ (s.slt_imm rs1 imm)) 4 rd,
    s.doneX_endsX_of_holds (s.holds_boolWord _ (s.ult_readX rs1 rs2)) 4 rd,
    s.doneX_endsX_of_holds (s.holds_boolWord _ (s.ult_imm rs1 imm)) 4 rd⟩

/-- Settles O16, with the amount of a register shift as a remainder. -/
theorem shifts : Obligations.shifts := fun s rd rs1 rs2 shamt => by
  have amount : shamtX s.cfg.xlen (s.readX rs2) = s.ux rs2 % s.cfg.xlen.bits := shamtX_eq _ _
  exact ⟨amount ▸ s.doneX_endsX_of_holds (s.holds_sllX rs1 _) 4 rd,
    amount ▸ s.doneX_endsX_of_holds (s.holds_srlX rs1 _) 4 rd,
    amount ▸ s.doneX_endsX_of_holds (s.holds_sraX rs1 _) 4 rd,
    s.doneX_endsX_of_holds (s.holds_sllX rs1 _) 4 rd,
    s.doneX_endsX_of_holds (s.holds_srlX rs1 _) 4 rd,
    s.doneX_endsX_of_holds (s.holds_sraX rs1 _) 4 rd⟩

/-- Settles O17, each on the low 32 bits of its operands. -/
theorem word_forms : Obligations.word_forms := fun s rd rs1 rs2 imm shamt => by
  have amount : shamtW (s.readX rs2) = s.ux rs2 % 32 := shamtW_eq _
  exact ⟨s.doneX_endsX_of_holds (s.holds_addW (s.low32_readX rs2)) 4 rd,
    s.doneX_endsX_of_holds (s.holds_subW rs1 rs2) 4 rd,
    s.doneX_endsX_of_holds (s.holds_addW (low32_signExtend imm)) 4 rd,
    amount ▸ s.doneX_endsX_of_holds (s.holds_sllW rs1 _) 4 rd,
    amount ▸ s.doneX_endsX_of_holds (s.holds_srlW rs1 _) 4 rd,
    amount ▸ s.doneX_endsX_of_holds (s.holds_sraW rs1 _) 4 rd,
    s.doneX_endsX_of_holds (s.holds_sllW rs1 _) 4 rd,
    s.doneX_endsX_of_holds (s.holds_srlW rs1 _) 4 rd,
    s.doneX_endsX_of_holds (s.holds_sraW rs1 _) 4 rd⟩

theorem State.holds_mulh (s : State) (r1 r2 : Reg) :
    s.Holds (liftX s.cfg.xlen mulhOp (s.readX r1) (s.readX r2)) (s.sx r1 * s.sx r2 / s.modulus) :=
  s.holds_liftX (by
    rw [mulhOp, s.readX_setWidth_toInt, s.readX_setWidth_toInt, s.modulus_eq_two_pow, Nat.cast_pow, Nat.cast_ofNat])

theorem State.holds_mulhsu (s : State) (r1 r2 : Reg) :
    s.Holds (liftX s.cfg.xlen mulhsuOp (s.readX r1) (s.readX r2)) (s.sx r1 * s.ux r2 / s.modulus) :=
  s.holds_liftX (by
    rw [mulhsuOp, s.readX_setWidth_toInt, s.readX_setWidth_toNat, s.modulus_eq_two_pow, Nat.cast_pow, Nat.cast_ofNat])

theorem State.holds_mulhu (s : State) (r1 r2 : Reg) :
    s.Holds (liftX s.cfg.xlen mulhuOp (s.readX r1) (s.readX r2)) (s.ux r1 * s.ux r2 / s.modulus) :=
  s.holds_liftX (by
    rw [mulhuOp, s.readX_setWidth_toNat, s.readX_setWidth_toNat, s.modulus_eq_two_pow, ← BitVec.ofInt_natCast]
    push_cast
    rfl)

/-- Settles O18, each half as a quotient of the exact product. -/
theorem multiply : Obligations.multiply := fun s rd rs1 rs2 =>
  ⟨s.doneX_endsX_of_holds (s.holds_liftX_mul (s.holds_readX rs1) (s.holds_readX rs2)) 4 rd,
    s.doneX_endsX_of_holds (s.holds_mulh rs1 rs2) 4 rd, s.doneX_endsX_of_holds (s.holds_mulhsu rs1 rs2) 4 rd,
    s.doneX_endsX_of_holds (s.holds_mulhu rs1 rs2) 4 rd, s.doneX_endsX_of_holds (s.holds_mulW rs1 rs2) 4 rd⟩

/-- Settles O20, by the results of the expansions, two bytes on. -/
theorem compressed_compute : Obligations.compressed_compute := fun s rd rs2 r r2 u8 imm =>
  ⟨s.doneX_endsX_of_holds (s.holds_liftX_add (s.holds_readX 2#5) (s.holds_zextX_append u8 2)) 2 r.full,
    s.doneX_endsX_of_holds (s.holds_liftX_add (s.holds_readX rd) (s.holds_sextX imm)) 2 rd,
    s.doneX_endsX_of_holds (s.holds_addW (low32_signExtend imm)) 2 rd,
    s.doneX_endsX_of_holds (s.holds_sextX imm) 2 rd,
    s.doneX_endsX_of_holds (s.holds_liftX_add (s.holds_readX 2#5) (s.holds_sextX_append imm 4 (by decide))) 2 2#5,
    s.doneX_endsX_of_holds (s.holds_sextX_append imm 12 (by decide)) 2 rd,
    s.doneX_endsX_of_holds (s.holds_sllX rd _) 2 rd,
    s.doneX_endsX_of_holds (s.holds_srlX r.full _) 2 r.full,
    s.doneX_endsX_of_holds (s.holds_sraX r.full _) 2 r.full,
    s.doneX_endsX_of_holds (s.holds_bitwise_imm toNat_and_eq r.full imm) 2 r.full,
    s.doneX_endsX_of_holds (s.holds_readX rs2) 2 rd,
    s.doneX_endsX_of_holds (s.holds_liftX_add (s.holds_readX rd) (s.holds_readX rs2)) 2 rd,
    s.doneX_endsX_of_holds (s.holds_liftX_sub (s.holds_readX r.full) (s.holds_readX r2.full)) 2 r.full,
    s.doneX_endsX_of_holds (s.holds_bitwise toNat_xor_eq r.full r2.full) 2 r.full,
    s.doneX_endsX_of_holds (s.holds_bitwise toNat_or_eq r.full r2.full) 2 r.full,
    s.doneX_endsX_of_holds (s.holds_bitwise toNat_and_eq r.full r2.full) 2 r.full,
    s.doneX_endsX_of_holds (s.holds_subW r.full r2.full) 2 r.full,
    s.doneX_endsX_of_holds (s.holds_addW (s.low32_readX r2.full)) 2 r.full⟩

end Sys2Proof.Machine
end

section
/-! PROOFS. The computational pseudoinstructions (48_pseudo.md), and the branches and jumps (41_rvi_control_mem.md, 47_rvc.md). -/

namespace Sys2Proof.Machine

open Sys2Proof

/-! ### Registers and numbers modulo `2^XLEN` -/

theorem State.ux_zero (s : State) : s.ux 0#5 = 0 := rfl

theorem State.sx_zero (s : State) : s.sx 0#5 = 0 := Int.zero_bmod

theorem State.ux32_zero (s : State) : s.ux32 0#5 = 0 := rfl

theorem State.modulus_pos (s : State) : 0 < s.modulus := Nat.two_pow_pos _

theorem State.wrap_cast (s : State) (v : Int) : (s.wrap v : Int) = v % s.modulus :=
  Int.toNat_of_nonneg (Int.emod_nonneg _ (by have := s.modulus_pos; omega))

theorem State.wrap_one (s : State) : s.wrap 1 = 1 := by
  unfold State.wrap State.modulus
  cases s.cfg.xlen <;> rfl

theorem State.wrap_wrap (s : State) (v : Int) : s.wrap (s.wrap v) = s.wrap v := by
  rw [State.wrap, s.wrap_cast, Int.emod_emod_of_dvd _ dvd_rfl, State.wrap]

theorem State.ux_lt (s : State) (r : Reg) : s.ux r < s.modulus := s.readX_toNat_lt r

theorem State.wrap_ux (s : State) (r : Reg) : s.wrap (s.ux r) = s.ux r :=
  (s.wrap_natCast _).trans (Nat.mod_eq_of_lt (s.ux_lt r))

theorem State.EndsAt.congr_value {s : State} {o : Outcome} {p v v' : Int} {rd : Reg} (h : s.EndsAt o p rd v)
    (eq : v = v') : s.EndsAt o p rd v' := eq ▸ h

/-- The complement of `a` is `-1 - a`. -/
theorem State.holds_not (s : State) (r : Reg) :
    s.Holds (liftX s.cfg.xlen (fun _ a b => a ^^^ b) (s.readX r) (sextX s.cfg.xlen 0xfff#12)) (-1 - s.ux r) := by
  apply s.holds_liftX
  have ones : (sextX s.cfg.xlen 0xfff#12).setWidth s.cfg.xlen.bits = BitVec.allOnes _ :=
    (s.holds_sextX 0xfff#12).trans (allOnes_eq_ofInt _).symm
  rw [ones, BitVec.xor_allOnes, ofInt_sub, ← allOnes_eq_ofInt, ← s.holds_readX r, BitVec.allOnes_sub_eq_not]

theorem State.ult_one_imm (s : State) (r : Reg) :
    testX s.cfg.xlen (fun _ a b => a.ult b) (s.readX r) (sextX s.cfg.xlen 1#12) = true ↔ s.ux r = 0 := by
  rw [s.ult_imm, show (1#12).toInt = 1 from rfl, s.wrap_one, Nat.lt_one_iff]

/-- Settles O21, by the result of the machine instruction each expands to. -/
theorem pseudo_compute : Obligations.pseudo_compute := fun s rd rs =>
  ⟨(s.doneX_endsX_of_holds (s.holds_liftX_add (s.holds_readX 0#5) (s.holds_sextX 0#12)) 4 0#5).congr_value rfl,
    (s.doneX_endsX_of_holds (s.holds_liftX_add (s.holds_readX rs) (s.holds_sextX 0#12)) 4 rd).congr_value
      (Int.add_zero _),
    s.doneX_endsX_of_holds (s.holds_not rs) 4 rd,
    (s.doneX_endsX_of_holds (s.holds_liftX_sub (s.holds_readX 0#5) (s.holds_readX rs)) 4 rd).congr_value
      (Int.zero_sub _),
    (s.doneX_endsX_of_holds (s.holds_subW 0#5 rs) 4 rd).congr_value (congrArg word32 (Int.zero_sub _)),
    (s.doneX_endsX_of_holds (s.holds_addW (low32_signExtend 0#12)) 4 rd).congr_value
      ((congrArg word32 (Int.add_zero _)).trans (s.word32_ux32 rs)),
    s.doneX_endsX_of_holds (s.holds_boolWord _ (s.ult_one_imm rs)) 4 rd,
    (s.doneX_endsX_of_holds (s.holds_boolWord _ ((s.ult_readX 0#5 rs).trans Nat.pos_iff_ne_zero)) 4 rd).congr_value
      (ite_not ..),
    s.doneX_endsX_of_holds (s.holds_boolWord _ (s.sx_zero ▸ s.slt_readX rs 0#5)) 4 rd,
    s.doneX_endsX_of_holds (s.holds_boolWord _ (s.sx_zero ▸ s.slt_readX 0#5 rs)) 4 rd⟩

/-! ### Targets -/

theorem getElem_one_eq (w : Word) : w[1] = decide (w.toNat / 2 % 2 = 1) := by
  rw [← BitVec.getLsbD_eq_getElem, BitVec.getLsbD, Nat.testBit_eq_decide_div_mod_eq, pow_one]

theorem State.targetOk_iff {s : State} {target : Word} {d : Int} (h : s.Holds target d) :
    s.TargetOk d ↔ (s.cfg.c = true ∨ (truncX s.cfg.xlen target)[1] = false) := by
  rw [State.TargetOk, getElem_one_eq, State.truncX_toNat_of_holds h, decide_eq_false_iff_not, Nat.mod_two_not_eq_one]

/-- A jump whose target does not raise, with its link. -/
theorem State.jump_endsAt {s : State} {target w : Word} {d v : Int} (h : s.Holds target d) (ok : s.TargetOk d)
    (rd : Reg) (hw : s.Holds w v) : s.EndsAt (s.jump target fun t => t.setX rd w) d rd v := by
  rcases s.jump_cases target fun t => t.setX rd w with ⟨noC, bit, -⟩ | ⟨-, jumps⟩
  · exact absurd ((State.targetOk_iff h).1 ok) (by simp [noC, bit])
  · refine ⟨_, jumps, State.truncX_toNat_of_holds h, ?_, fun r other => s.readX_setX_ne rd r w other, fun _ => rfl, rfl,
      ⟨fun _ => rfl, rfl, rfl⟩, ?_⟩
    · rw [State.ux, State.readX_setPc, s.readX_setX_self, ← State.truncX_toNat_of_holds hw]
      split <;> rfl
    · simp [State.SameSystem, State.SameTrap, State.SameCsr, State.SameRun]

theorem State.jump_endsTrap {s : State} {target : Word} {d : Int} (h : s.Holds target d) (bad : ¬s.TargetOk d)
    (link : State → State) :
    s.EndsTrap (s.jump target link) (.instrMisaligned (BitVec.ofNat 64 (s.wrap d))) 0 (s.wrap d) := by
  have value := State.truncX_toNat_of_holds h
  have word : truncX s.cfg.xlen target = BitVec.ofNat 64 (s.wrap d) := by
    rw [← value, BitVec.ofNat_toNat, BitVec.setWidth_eq]
  rcases s.jump_cases target link with ⟨-, -, raised⟩ | ⟨ok, -⟩
  · rw [raised, ← word, ← value]
    exact s.raise_endsTrap _
  · exact absurd ((State.targetOk_iff h).2 ok) bad

theorem State.wrap_masked (s : State) (d : Int) : s.wrap (s.masked d) = s.wrap d / 2 * 2 := by
  have clear := s.wrap_clear_low (s.wrap d) 1 (.inl rfl)
  rwa [s.wrap_wrap, pow_one] at clear

theorem State.targetOk_masked {s : State} {d : Int} : s.TargetOk (s.masked d) ↔ s.TargetOk d := by
  rw [State.TargetOk, State.TargetOk, s.wrap_masked, Nat.mul_div_cancel _ (by decide)]

theorem State.holds_of_truncX_toNat {s : State} {w : Word} {v : Int} (h : (truncX s.cfg.xlen w).toNat = s.wrap v) :
    s.Holds w v := by
  apply BitVec.eq_of_toNat_eq
  rw [BitVec.toNat_setWidth, ← truncX_toNat, h, BitVec.toNat_ofInt]
  rfl

/-- Masking bit 0 of a word. -/
theorem State.holds_masked {s : State} {w : Word} {d : Int} (h : s.Holds w d) :
    s.Holds (w &&& ~~~1#64) (s.masked d) := by
  apply s.holds_of_truncX_toNat
  have clear := s.truncX_clear_low_toNat w 1 (.inl rfl)
  rw [← s.truncX_toNat_eq_wrap, State.truncX_toNat_of_holds h, pow_one] at clear
  rw [s.wrap_masked]
  exact clear

theorem State.holds_ea {s : State} {a b : Word} {u v : Int} (ha : s.Holds a u) (hb : s.Holds b v) :
    s.Holds (s.ea a b) (u + v) :=
  s.holds_truncX (s.holds_add ha hb)

/-- The address of the instruction `n` bytes on. -/
theorem State.holds_link (s : State) (n : Nat) : s.Holds (s.pc + BitVec.ofNat 64 n) (s.upc + n) :=
  s.holds_add s.holds_pc (BitVec.ofInt_natCast 64 n ▸ s.holds_ofInt n)

/-- A jump that links nothing. -/
theorem State.jump_endsAt_id {s : State} {target : Word} {d : Int} (h : s.Holds target d) (ok : s.TargetOk d) :
    s.EndsAt (s.jump target id) d 0 0 :=
  State.jump_endsAt h ok 0#5 s.holds_zero

/-! ### Branches -/

/-- A branch under the condition `p`: taken with a target that does not raise, or not taken. -/
theorem State.branch_goes {s : State} {taken : Bool} {p : Prop} (cond : taken = true ↔ p) {off : Word} {d : Int}
    (h : s.Holds off d) (n : Nat) :
    (p → s.TargetOk (s.upc + d) → s.EndsAt (s.branch (BitVec.ofNat 64 n) taken off) (s.upc + d) 0 0) ∧
      (¬p → s.EndsAt (s.branch (BitVec.ofNat 64 n) taken off) (s.upc + n) 0 0) := by
  constructor
  · intro hp ok
    rw [s.branch_eq, if_pos (cond.2 hp)]
    exact State.jump_endsAt_id (s.holds_add s.holds_pc h) ok
  · intro hp
    rw [s.branch_eq, if_neg (mt cond.1 hp)]
    exact s.doneX_endsX_of_holds s.holds_zero n 0#5

theorem State.beq_readX (s : State) (a b : Reg) :
    testX s.cfg.xlen (fun _ a b => a == b) (s.readX a) (s.readX b) = true ↔ s.ux a = s.ux b := by
  rw [testX_eq, beq_iff_eq, ← BitVec.toNat_inj, s.readX_setWidth_toNat, s.readX_setWidth_toNat]

theorem State.bne_readX (s : State) (a b : Reg) :
    testX s.cfg.xlen (fun _ a b => a != b) (s.readX a) (s.readX b) = true ↔ s.ux a ≠ s.ux b := by
  rw [testX_eq, bne_iff_ne, ne_eq, ← BitVec.toNat_inj, s.readX_setWidth_toNat, s.readX_setWidth_toNat]

theorem State.not_slt_readX (s : State) (a b : Reg) :
    testX s.cfg.xlen (fun _ a b => !a.slt b) (s.readX a) (s.readX b) = true ↔ s.sx b ≤ s.sx a := by
  rw [← Int.not_lt, ← s.slt_readX, testX_eq, testX_eq, Bool.not_eq_true', Bool.not_eq_true]

theorem State.not_ult_readX (s : State) (a b : Reg) :
    testX s.cfg.xlen (fun _ a b => !a.ult b) (s.readX a) (s.readX b) = true ↔ s.ux b ≤ s.ux a := by
  rw [← Nat.not_lt, ← s.ult_readX, testX_eq, testX_eq, Bool.not_eq_true', Bool.not_eq_true]

theorem State.holds_branchOff (s : State) (off : BitVec 12) : s.Holds (branchOff s.cfg.xlen off) (off.toInt * 2) :=
  s.holds_sextX_append off 1 (by decide)

/-- Settles O23, by the one lemma for a branch, applied to each condition. -/
theorem branches : Obligations.branches := by
  intro s a b off
  have go {taken : Bool} {p : Prop} (cond : taken = true ↔ p) := State.branch_goes cond (s.holds_branchOff off) 4
  exact ⟨go (s.beq_readX a b), go (s.bne_readX a b), go (s.slt_readX a b), go (s.not_slt_readX a b),
    go (s.ult_readX a b), go (s.not_ult_readX a b), go (s.beq_readX a 0#5), go (s.bne_readX a 0#5),
    go (s.sx_zero ▸ s.not_slt_readX 0#5 a), go (s.sx_zero ▸ s.not_slt_readX a 0#5), go (s.sx_zero ▸ s.slt_readX a 0#5),
    go (s.sx_zero ▸ s.slt_readX 0#5 a), go (s.slt_readX b a), go (s.not_slt_readX b a), go (s.ult_readX b a),
    go (s.not_ult_readX b a)⟩

/-- Settles O24, by the lemmas for a branch and a jump, two bytes on. -/
theorem compressed_control : Obligations.compressed_control := by
  intro s r rs off far
  have near : s.Holds (cBranchOff s.cfg.xlen off) (off.toInt * 2) := s.holds_sextX_append off 1 (by decide)
  have target : s.Holds (s.pc + cJumpOff s.cfg.xlen far) (s.upc + far.toInt * 2) :=
    s.holds_add s.holds_pc (s.holds_sextX_append far 1 (by decide))
  have eqz := State.branch_goes (s.beq_readX r.full 0#5) near 2
  have nez := State.branch_goes (s.bne_readX r.full 0#5) near 2
  have masked := State.holds_masked (s.holds_readX rs)
  exact ⟨eqz.1, eqz.2, nez.1, fun h => nez.2 (not_not_intro h),
    fun ok => ⟨State.jump_endsAt_id target ok, State.jump_endsAt target ok 1#5 (s.holds_link 2)⟩,
    fun ok => ⟨State.jump_endsAt_id masked (State.targetOk_masked.2 ok),
      State.jump_endsAt masked (State.targetOk_masked.2 ok) 1#5 (s.holds_link 2)⟩⟩

theorem State.holds_jalr (s : State) (r : Reg) (off : BitVec 12) :
    s.Holds (s.ea (s.readX r) (off.signExtend 64) &&& ~~~1#64) (s.masked (s.ux r + off.toInt)) :=
  State.holds_masked (State.holds_ea (s.holds_readX r) (s.holds_signExtend off))

theorem State.holds_jalOff (s : State) (off : BitVec 20) :
    s.Holds (s.pc + jalOff s.cfg.xlen off) (s.upc + off.toInt * 2) :=
  s.holds_add s.holds_pc (s.holds_sextX_append off 1 (by decide))

theorem exec_jal_endsAt (s : State) (rd : Reg) (off : BitVec 20) (ok : s.TargetOk (s.upc + off.toInt * 2)) :
    s.EndsAt (execJal rd off s) (s.upc + off.toInt * 2) rd (s.upc + 4) :=
  State.jump_endsAt (s.holds_jalOff off) ok rd (s.holds_link 4)

theorem exec_jalr_endsAt (s : State) (rd rs1 : Reg) (low : BitVec 12) (ok : s.TargetOk (s.ux rs1 + low.toInt)) :
    s.EndsAt (execJalr rd rs1 low s) (s.masked (s.ux rs1 + low.toInt)) rd (s.upc + 4) :=
  State.jump_endsAt (s.holds_jalr rs1 low) (State.targetOk_masked.2 ok) rd (s.holds_link 4)

/-- A jump to a register that links nothing. -/
theorem exec_jr_endsAt (s : State) (r : Reg) (ok : s.TargetOk (s.ux r)) :
    s.EndsAt (execJalr 0#5 r 0#12 s) (s.masked (s.ux r)) 0 0 := by
  have zero : (s.ux r : Int) = s.ux r + (0#12).toInt := (Int.add_zero _).symm
  rw [zero] at ok ⊢
  exact exec_jalr_endsAt s 0#5 r 0#12 ok

/-- Settles O25, by the lemmas for `jal` and `jalr`. -/
theorem jumps : Obligations.jumps := fun s rd rs1 off low =>
  ⟨fun ok => ⟨exec_jal_endsAt s rd off ok, exec_jal_endsAt s 0#5 off ok⟩,
    exec_jalr_endsAt s rd rs1 low, exec_jr_endsAt s rs1, exec_jr_endsAt s 1#5⟩

theorem State.branch_endsTrap {s : State} {taken : Bool} {off : Word} {d : Int} (h : s.Holds off d)
    (isTaken : taken = true) (bad : ¬s.TargetOk (s.upc + d)) (len : Word) :
    s.EndsTrap (s.branch len taken off) (.instrMisaligned (BitVec.ofNat 64 (s.wrap (s.upc + d)))) 0
      (s.wrap (s.upc + d)) := by
  rw [s.branch_eq, if_pos isTaken]
  exact State.jump_endsTrap (s.holds_add s.holds_pc h) bad id

/-- Settles O26, by the lemma for a taken transfer to a bad target. -/
theorem misaligned_target_raises : Obligations.misaligned_target_raises := by
  intro s rd rs1 rs2 off far
  have branch {taken : Bool} {p : Prop} (cond : taken = true ↔ p) (hp : p) (bad : ¬s.TargetOk (s.upc + off.toInt * 2)) :=
    State.branch_endsTrap (s.holds_branchOff off) (cond.2 hp) bad 4#64
  exact ⟨branch (s.beq_readX rs1 rs2), branch (s.bne_readX rs1 rs2), branch (s.slt_readX rs1 rs2),
    branch (s.not_slt_readX rs1 rs2), branch (s.ult_readX rs1 rs2), branch (s.not_ult_readX rs1 rs2),
    fun bad => State.jump_endsTrap (s.holds_jalOff far) bad fun t => t.setX rd (s.pc + 4#64),
    fun bad => State.jump_endsTrap (s.holds_jalr rs1 off) bad fun t => t.setX rd (s.pc + 4#64)⟩

end Sys2Proof.Machine
end

section
/-! PROOFS. Loads, stores and fences (20_memory.md, 41_rvi_control_mem.md, and the compressed forms of 47_rvc.md). -/

namespace Sys2Proof.Machine

open Sys2Proof

/-! ### Addresses -/

theorem State.ea_eq_addr {s : State} {r : Reg} {off : Word} {d : Int} (h : s.Holds off d) :
    s.ea (s.readX r) off = s.addr r d := by
  have value : (s.ea (s.readX r) off).toNat = s.wrap (s.ux r + d) :=
    State.truncX_toNat_of_holds (s.holds_add (s.holds_readX r) h)
  rw [State.addr, ← value, BitVec.ofNat_toNat, BitVec.setWidth_eq]

/-! ### What an access raises -/

theorem State.allBytes_mapped (s : State) (a : Word) (n : Nat) :
    s.allBytes a mapped n = true ↔ ∀ i, i < n → s.classAt (byteAddr s.cfg.xlen a i) ≠ .none := by
  simp [State.allBytes, mapped]

theorem State.misaligned_iff {s : State} {a : Word} {n : Nat} :
    ¬(a.toNat % n ≠ 0 ∧ s.cfg.misaligned = .trap) ↔ (s.cfg.misaligned = .split ∨ a.toNat % n = 0) := by
  cases s.cfg.misaligned <;> simp

theorem State.Accessible.checks {s : State} {a : Word} {n : Nat} (h : s.Accessible a n) :
    ¬(a.toNat % n ≠ 0 ∧ s.cfg.misaligned = .trap) ∧ s.allBytes a mapped n = true :=
  ⟨State.misaligned_iff.2 h.1.symm, (s.allBytes_mapped a n).2 h.2⟩

theorem State.loadExc_of_accessible {s : State} {a : Word} {n : Nat} (h : s.Accessible a n) : s.loadExc a n = none := by
  obtain ⟨aligned, mapped⟩ := h.checks
  rw [State.loadExc, if_neg aligned, if_pos mapped]

theorem State.storeExc_of_accessible {s : State} {a : Word} {n : Nat} (h : s.Accessible a n) :
    s.storeExc a n = none := by
  obtain ⟨aligned, mapped⟩ := h.checks
  rw [State.storeExc, if_neg aligned, if_pos mapped]

/-- R75 and R76 of one outcome: under MISALIGNED = trap a misaligned address is the trap of `misaligned`, and otherwise a
byte that is not mapped is the trap of `access`. -/
def State.AccessTraps (s : State) (o : Outcome) (a : Word) (n : Nat) (misaligned access : Exc) : Prop :=
  (s.cfg.misaligned = .trap → a.toNat % n ≠ 0 → s.EndsTrap o misaligned misaligned.code misaligned.info.toNat) ∧
    ((s.cfg.misaligned = .split ∨ a.toNat % n = 0) → (∃ k, k < n ∧ s.classAt (byteAddr s.cfg.xlen a k) = .none) →
      s.EndsTrap o access access.code access.info.toNat)

theorem State.not_allBytes_mapped {s : State} {a : Word} {n : Nat}
    (h : ∃ k, k < n ∧ s.classAt (byteAddr s.cfg.xlen a k) = .none) : ¬s.allBytes a mapped n = true := by
  obtain ⟨k, inside, unmapped⟩ := h
  exact fun all => (s.allBytes_mapped a n).1 all k inside unmapped

theorem State.load_traps (s : State) (len : Word) {r : Reg} {off : Word} {d : Int} (h : s.Holds off d) (n : Nat)
    (put : Nat → State → State) :
    s.AccessTraps (s.load len (s.ea (s.readX r) off) n put) (s.addr r d) n (.loadMisaligned (s.addr r d))
      (.loadAccess (s.addr r d)) := by
  rw [State.ea_eq_addr h]
  constructor
  · intro trap misaligned
    rw [State.load, State.loadExc, if_pos ⟨misaligned, trap⟩]
    exact s.raise_endsTrap _
  · intro aligned unmapped
    rw [State.load, State.loadExc, if_neg (State.misaligned_iff.2 aligned), if_neg (State.not_allBytes_mapped unmapped)]
    exact s.raise_endsTrap _

theorem State.store_traps (s : State) (len : Word) {r : Reg} {off : Word} {d : Int} (h : s.Holds off d) (n : Nat)
    (v : Word) :
    s.AccessTraps (s.store len (s.ea (s.readX r) off) n v) (s.addr r d) n (.storeMisaligned (s.addr r d))
      (.storeAccess (s.addr r d)) := by
  rw [State.ea_eq_addr h]
  constructor
  · intro trap misaligned
    rw [State.store, State.storeExc, if_pos ⟨misaligned, trap⟩]
    exact s.raise_endsTrap _
  · intro aligned unmapped
    rw [State.store, State.storeExc, if_neg (State.misaligned_iff.2 aligned), if_neg (State.not_allBytes_mapped unmapped)]
    exact s.raise_endsTrap _

/-! ### The offsets of the compressed forms -/

theorem State.holds_cwOff (s : State) (u : BitVec 5) : s.Holds (cwOff u) (u.toNat * 4) :=
  s.holds_zextX_append u 2

theorem State.holds_cdOff (s : State) (u : BitVec 5) : s.Holds (cdOff u) (u.toNat * 8) :=
  s.holds_zextX_append u 3

theorem State.holds_cwspOff (s : State) (u : BitVec 6) : s.Holds (cwspOff u) (u.toNat * 4) :=
  s.holds_zextX_append u 2

theorem State.holds_cdspOff (s : State) (u : BitVec 6) : s.Holds (cdspOff u) (u.toNat * 8) :=
  s.holds_zextX_append u 3

/-- Settles O31, by the lemmas for a load and a store that trap, at each size and offset. -/
theorem access_exceptions : Obligations.access_exceptions := by
  intro s r rs1 c c1 off u5 u6
  have base := s.holds_signExtend off
  have load (len : Word) {r : Reg} {w : Word} {d : Int} (h : s.Holds w d) (n : Nat) (put : Nat → State → State) :=
    s.load_traps (r := r) len h n put
  have store (len : Word) {r : Reg} {w : Word} {d : Int} (h : s.Holds w d) (n : Nat) (v : Word) :=
    s.store_traps (r := r) len h n v
  exact ⟨load 4 base 1 fun v t => t.setX r (sextX s.cfg.xlen (BitVec.ofNat 8 v)),
    load 4 base 1 fun v t => t.setX r (BitVec.ofNat 64 v),
    load 4 base 2 fun v t => t.setX r (sextX s.cfg.xlen (BitVec.ofNat 16 v)),
    load 4 base 2 fun v t => t.setX r (BitVec.ofNat 64 v),
    load 4 base 4 fun v t => t.setX r (sextX s.cfg.xlen (BitVec.ofNat 32 v)),
    load 4 base 4 fun v t => t.setX r (BitVec.ofNat 64 v),
    load 4 base 8 fun v t => t.setX r (BitVec.ofNat 64 v),
    load 4 base 4 fun v t => t.setS r (BitVec.ofNat 32 v),
    load 4 base 8 fun v t => t.setF r (BitVec.ofNat 64 v),
    load 2 (s.holds_cwOff u5) 4 fun v t => t.setX c.full (sextX s.cfg.xlen (BitVec.ofNat 32 v)),
    load 2 (s.holds_cdOff u5) 8 fun v t => t.setX c.full (BitVec.ofNat 64 v),
    load 2 (s.holds_cwOff u5) 4 fun v t => t.setS c.full (BitVec.ofNat 32 v),
    load 2 (s.holds_cdOff u5) 8 fun v t => t.setF c.full (BitVec.ofNat 64 v),
    load 2 (s.holds_cwspOff u6) 4 fun v t => t.setX r (sextX s.cfg.xlen (BitVec.ofNat 32 v)),
    load 2 (s.holds_cdspOff u6) 8 fun v t => t.setX r (BitVec.ofNat 64 v),
    load 2 (s.holds_cwspOff u6) 4 fun v t => t.setS r (BitVec.ofNat 32 v),
    load 2 (s.holds_cdspOff u6) 8 fun v t => t.setF r (BitVec.ofNat 64 v),
    store 4 base 1 (s.readX r), store 4 base 2 (s.readX r), store 4 base 4 (s.readX r), store 4 base 8 (s.readX r),
    store 4 base 4 (s.readF r), store 4 base 8 (s.readF r),
    store 2 (s.holds_cwOff u5) 4 (s.readX c.full), store 2 (s.holds_cdOff u5) 8 (s.readX c.full),
    store 2 (s.holds_cwOff u5) 4 (s.readF c.full), store 2 (s.holds_cdOff u5) 8 (s.readF c.full),
    store 2 (s.holds_cwspOff u6) 4 (s.readX r), store 2 (s.holds_cdspOff u6) 8 (s.readX r),
    store 2 (s.holds_cwspOff u6) 4 (s.readF r), store 2 (s.holds_cdspOff u6) 8 (s.readF r)⟩

/-! ### What a load reads -/

theorem State.loadBytes_eq_numberAt (s : State) (a : Word) (n : Nat) : s.loadBytes a n = s.numberAt a n := by
  unfold State.loadBytes State.numberAt
  induction n with
  | zero => rfl
  | succ n ih =>
    rw [littleEndian, ih, List.range_succ, List.map_append, List.sum_append, pow_mul]
    simp

theorem State.load_endsX {s : State} {r : Reg} {off : Word} {d : Int} (h : s.Holds off d) (len n : Nat) (rd : Reg)
    (value : Nat → Word) {v : Int} (ok : s.Accessible (s.addr r d) n)
    (holds : s.Holds (value (s.numberAt (s.addr r d) n)) v) :
    s.EndsX (s.load (BitVec.ofNat 64 len) (s.ea (s.readX r) off) n fun v t => t.setX rd (value v)) len rd v := by
  rw [State.ea_eq_addr h, State.load, State.loadExc_of_accessible ok, s.loadBytes_eq_numberAt]
  exact s.doneX_endsX_of_holds holds len rd

/-- A load whose value is extended with its sign. -/
theorem State.load_signed {s : State} {r : Reg} {off : Word} {d : Int} (h : s.Holds off d) (len n : Nat) (rd : Reg)
    (ok : s.Accessible (s.addr r d) n) :
    s.EndsX (s.load (BitVec.ofNat 64 len) (s.ea (s.readX r) off) n fun v t =>
      t.setX rd (sextX s.cfg.xlen (BitVec.ofNat (8 * n) v))) len rd
      ((s.numberAt (s.addr r d) n : Int).bmod (2 ^ (8 * n))) :=
  s.load_endsX h len n rd _ ok (BitVec.toInt_ofNat .. ▸ s.holds_sextX _)

/-- A load whose value is extended with zeros, or fills the register. -/
theorem State.load_unsigned {s : State} {r : Reg} {off : Word} {d : Int} (h : s.Holds off d) (len n : Nat) (rd : Reg)
    (ok : s.Accessible (s.addr r d) n) :
    s.EndsX (s.load (BitVec.ofNat 64 len) (s.ea (s.readX r) off) n fun v t => t.setX rd (BitVec.ofNat 64 v)) len rd
      (s.numberAt (s.addr r d) n) :=
  s.load_endsX h len n rd _ ok (BitVec.ofInt_natCast .. ▸ s.holds_ofInt _)

/-- Settles O28, by the lemma for a load, signed or not, at each size and offset. -/
theorem loads : Obligations.loads := by
  intro s rd rs1 r r1 off u5 u6
  have base := s.holds_signExtend off
  exact ⟨s.load_signed base 4 1 rd, s.load_signed base 4 2 rd, s.load_signed base 4 4 rd, s.load_unsigned base 4 1 rd,
    s.load_unsigned base 4 2 rd, s.load_unsigned base 4 4 rd, s.load_unsigned base 4 8 rd,
    s.load_signed (s.holds_cwOff u5) 2 4 r.full, s.load_signed (s.holds_cwspOff u6) 2 4 rd,
    s.load_unsigned (s.holds_cdOff u5) 2 8 r.full, s.load_unsigned (s.holds_cdspOff u6) 2 8 rd⟩

/-! ### Floating-point results -/

theorem State.accrue_fflags (s : State) (fl : BitVec 5) : (s.accrue fl).fflags = s.fflags ||| fl := by
  simp only [State.fflags, State.accrue, BitVec.extractLsb'_or]
  congr 1
  ext i hi
  simpa [hi] using fun _ => by omega

theorem State.accrue_frm (s : State) (fl : BitVec 5) : (s.accrue fl).frm = s.frm := by
  simp only [State.frm, State.accrue, BitVec.extractLsb'_or]
  ext i hi
  simp

/-- An instruction that writes `f[rd]` and accrues flags, whole. -/
theorem State.setF_endsF (s : State) (rd : Reg) (len : Nat) {w v : Word} (value : truncF s.cfg.fp w = v)
    (fl : BitVec 5) :
    s.EndsF (.next (((s.setF rd w).accrue fl).advance (BitVec.ofNat 64 len))) len rd v fl := by
  refine ⟨_, rfl, ?_, ?_, fun r other => s.readF_setF_ne rd r w other, ?_, ?_, fun _ => rfl, ⟨fun _ => rfl, rfl, rfl⟩,
    ?_⟩
  · exact State.truncX_toNat_of_holds (s.holds_link len)
  · exact (s.readF_setF_self rd w).trans value
  · exact (s.setF rd w).accrue_fflags fl
  · exact (s.setF rd w).accrue_frm fl
  · simp [State.SameSystem, State.SameTrap, State.SameCsr, State.SameRun]

theorem box_eq_boxed (s : State) (v : BitVec 32) : truncF s.cfg.fp (box s.cfg.fp v) = s.boxed v := by
  unfold State.boxed
  cases s.cfg.fp with
  | fd =>
    apply BitVec.eq_of_toNat_eq
    rw [if_pos rfl, truncF, box, BitVec.toNat_append, ← Nat.shiftLeft_add_eq_or_of_lt v.isLt, Nat.shiftLeft_eq]
    have := v.isLt
    simp only [BitVec.toNat_ofNat]
    omega
  | f => simp [box, truncF]
  | none => simp [box, truncF]

theorem State.accrue_zero (s : State) : s.accrue 0#5 = s := by
  simp [State.accrue]

theorem State.load_endsF {s : State} {r : Reg} {off : Word} {d : Int} (h : s.Holds off d) (len n : Nat) (rd : Reg)
    (value : Nat → Word) {v : Word} (ok : s.Accessible (s.addr r d) n)
    (holds : truncF s.cfg.fp (value (s.numberAt (s.addr r d) n)) = v) :
    s.EndsF (s.load (BitVec.ofNat 64 len) (s.ea (s.readX r) off) n fun v t => t.setF rd (value v)) len rd v 0 := by
  rw [State.ea_eq_addr h, State.load, State.loadExc_of_accessible ok, s.loadBytes_eq_numberAt]
  have ends := s.setF_endsF rd len holds 0#5
  rwa [State.accrue_zero] at ends

/-- A load of a word that is boxed. -/
theorem State.load_single {s : State} {r : Reg} {off : Word} {d : Int} (h : s.Holds off d) (len : Nat) (rd : Reg)
    (ok : s.Accessible (s.addr r d) 4) :
    s.EndsF (s.load (BitVec.ofNat 64 len) (s.ea (s.readX r) off) 4 fun v t => t.setS rd (BitVec.ofNat 32 v)) len rd
      (s.boxed (BitVec.ofNat 32 (s.numberAt (s.addr r d) 4))) 0 :=
  s.load_endsF h len 4 rd (fun v => box s.cfg.fp (BitVec.ofNat 32 v)) ok (box_eq_boxed s _)

theorem State.load_double {s : State} {r : Reg} {off : Word} {d : Int} (h : s.Holds off d) (len : Nat) (rd : Reg)
    (fd : s.cfg.fp = .fd) (ok : s.Accessible (s.addr r d) 8) :
    s.EndsF (s.load (BitVec.ofNat 64 len) (s.ea (s.readX r) off) 8 fun v t => t.setF rd (BitVec.ofNat 64 v)) len rd
      (BitVec.ofNat 64 (s.numberAt (s.addr r d) 8)) 0 :=
  s.load_endsF h len 8 rd (fun v => BitVec.ofNat 64 v) ok (by rw [fd, truncF])

/-- Settles O29, by the lemma for a single and a double load, at each offset. -/
theorem float_loads : Obligations.float_loads := by
  intro s rd rs1 r r1 off u5 u6
  have base := s.holds_signExtend off
  exact ⟨s.load_single base 4 rd, s.load_single (s.holds_cwOff u5) 2 r.full, s.load_single (s.holds_cwspOff u6) 2 rd,
    s.load_double base 4 rd, s.load_double (s.holds_cdOff u5) 2 r.full, s.load_double (s.holds_cdspOff u6) 2 rd⟩

/-! ### What a store leaves -/

/-- Byte `i` of a word that agrees with the number `v` in its low `n` bytes. -/
theorem extract_eq_byteOf {w : Word} {n v i : Nat} (agree : w.toNat % 2 ^ (8 * n) = v % 2 ^ (8 * n)) (hi : i < n) :
    w.extractLsb' (8 * i) 8 = byteOf v i := by
  apply BitVec.eq_of_getLsbD_eq
  intro j hj
  have bit := congrArg (·.testBit (8 * i + j)) agree
  simp only [Nat.testBit_mod_two_pow, show 8 * i + j < 8 * n by omega, decide_true, Bool.true_and] at bit
  rw [BitVec.getLsbD_extractLsb', byteOf, BitVec.getLsbD_ofNat, BitVec.getLsbD, bit,
    show 256 ^ i = 2 ^ (8 * i) from (pow_mul 2 8 i).symm ▸ rfl, Nat.testBit_div_two_pow, Nat.add_comm j]

theorem State.stale_storeByte_ne (s : State) {a b : Nat} (v : Byte) (h : s.classAt a = .ram → b ≠ a) :
    (s.storeByte a v).stale.find b = s.stale.find b := by
  unfold State.storeByte
  split
  · rfl
  · next ram => exact Memory.find_markStale_ne _ _ _ _ (h ram)
  · rfl

theorem State.mem_storeByte_ne (s : State) {a b : Nat} (v : Byte) (h : s.classAt a = .ram → b ≠ a) :
    (s.storeByte a v).mem.read b = s.mem.read b := by
  unfold State.storeByte
  split
  · rfl
  · next ram => exact Memory.read_write_ne _ _ _ _ (h ram)
  · rfl

/-- A store leaves every byte that it does not put into ram as it was, with its dirty flag. -/
theorem State.storeBytes_elsewhere (s : State) (a v : Word) (n b : Nat)
    (h : ∀ i, i < n → s.classAt (byteAddr s.cfg.xlen a i) = .ram → b ≠ byteAddr s.cfg.xlen a i) :
    (s.storeBytes a v n).mem.read b = s.mem.read b ∧ (s.storeBytes a v n).stale.find b = s.stale.find b := by
  induction n with
  | zero => exact ⟨rfl, rfl⟩
  | succ n ih =>
    obtain ⟨mem, stale⟩ := ih fun i hi => h i (Nat.lt_succ_of_lt hi)
    have last : (s.storeBytes a v n).classAt (byteAddr s.cfg.xlen a n) = .ram → b ≠ byteAddr s.cfg.xlen a n := by
      rw [s.classAt_storeBytes]
      exact h n n.lt_succ_self
    exact ⟨(State.mem_storeByte_ne _ _ last).trans mem, (State.stale_storeByte_ne _ _ last).trans stale⟩

/-- A byte stored to ram is dirty, with the value it had at the last `fence.i`. -/
theorem State.stale_storeByte_self (s : State) {a : Nat} (v : Byte) (h : s.classAt a = .ram) :
    (s.storeByte a v).stale.find a = some ((s.stale.find a).getD (s.mem.read a)) := by
  unfold State.storeByte
  rw [h]
  exact Memory.find_markStale_self _ _ _

theorem State.stale_storeBytes_self (s : State) (a v : Word) {n i : Nat} (hn : n ≤ 2 ^ 32) (hi : i < n)
    (ram : s.classAt (byteAddr s.cfg.xlen a i) = .ram) :
    (s.storeBytes a v n).stale.find (byteAddr s.cfg.xlen a i) =
      some ((s.stale.find (byteAddr s.cfg.xlen a i)).getD (s.mem.read (byteAddr s.cfg.xlen a i))) := by
  induction n with
  | zero => omega
  | succ n ih =>
    have apart {j : Nat} (hj : j < n + 1) (other : i ≠ j) : byteAddr s.cfg.xlen a i ≠ byteAddr s.cfg.xlen a j :=
      fun e => other (byteAddr_inj (by omega) (by omega) e)
    rcases Nat.lt_succ_iff_lt_or_eq.1 hi with before | rfl
    · exact (State.stale_storeByte_ne _ _ fun _ => apart n.lt_succ_self (by omega)).trans (ih (by omega) before)
    · obtain ⟨mem, stale⟩ := s.storeBytes_elsewhere a v i _ fun j hj _ => apart (by omega) (by omega)
      rw [← mem, ← stale]
      exact State.stale_storeByte_self _ _ (by rwa [s.classAt_storeBytes])

theorem State.ioTrace_storeByte (s : State) (a : Nat) (v : Byte) :
    (s.storeByte a v).ioTrace = s.ioTrace ++ if s.classAt a = .io then [{ addr := a, value := v }] else [] := by
  unfold State.storeByte
  cases s.classAt a <;> simp

theorem State.ioTrace_storeBytes (s : State) (a w : Word) (m : Nat) :
    (s.storeBytes a w m).ioTrace = s.ioTrace ++ ((List.range m).filter fun i =>
      s.classAt (byteAddr s.cfg.xlen a i) = .io).map fun i =>
        { addr := byteAddr s.cfg.xlen a i, value := w.extractLsb' (8 * i) 8 } := by
  induction m with
  | zero => simp [State.storeBytes]
  | succ m ih =>
    rw [State.storeBytes, State.ioTrace_storeByte, ih, s.classAt_storeBytes, List.range_succ, List.filter_append,
      List.map_append, List.append_assoc]
    by_cases io : s.classAt (byteAddr s.cfg.xlen a m) = .io <;> simp [io]

/-- Memory after a store of `n` bytes, whole. -/
theorem State.storeBytes_stored (s : State) (a : Word) {w : Word} {n v : Nat} (hn : n ≤ 2 ^ 32)
    (agree : w.toNat % 2 ^ (8 * n) = v % 2 ^ (8 * n)) : s.Stored (s.storeBytes a w n) a n v := by
  refine ⟨fun i hi ram => ?_, fun b other => s.storeBytes_elsewhere a w n b other,
    fun i hi ram => s.stale_storeBytes_self a w hn hi ram, ?_⟩
  · rw [s.read_storeBytes_self a w n i hn hi ram, extract_eq_byteOf agree hi]
  · rw [s.ioTrace_storeBytes]
    congr 1
    refine List.map_congr_left fun i mem => ?_
    rw [extract_eq_byteOf agree (List.mem_range.1 (List.mem_of_mem_filter mem))]

theorem State.storeBytes_sameSystem (s : State) (a w : Word) (n : Nat) : s.SameSystem (s.storeBytes a w n) := by
  simp [State.SameSystem, State.SameTrap, State.SameCsr, State.SameRun]

theorem State.readX_storeBytes (s : State) (a w : Word) (n : Nat) (r : Reg) :
    (s.storeBytes a w n).readX r = s.readX r := by
  simp [State.readX]

theorem State.readF_storeBytes (s : State) (a w : Word) (n : Nat) (r : Reg) :
    (s.storeBytes a w n).readF r = s.readF r := by
  simp [State.readF]

theorem State.store_endsStore {s : State} {r : Reg} {off : Word} {d : Int} (h : s.Holds off d) (len n : Nat) (w : Word)
    (small : n ≤ 2 ^ 32) (ok : s.Accessible (s.addr r d) n) :
    s.EndsStore (s.store (BitVec.ofNat 64 len) (s.ea (s.readX r) off) n w) len (s.addr r d) n w.toNat := by
  rw [State.ea_eq_addr h, State.store, State.storeExc_of_accessible ok]
  refine ⟨_, rfl, ?_, s.storeBytes_stored _ small rfl, s.readX_storeBytes _ _ _, s.readF_storeBytes _ _ _,
    s.storeBytes_fcsr _ _ _, s.storeBytes_sameSystem _ _ _⟩
  rw [State.advance_pc, s.storeBytes_cfg, s.storeBytes_pc]
  exact State.truncX_toNat_of_holds (s.holds_link len)

/-- Settles O30, by the lemma for a store, at each size and offset. -/
theorem stores : Obligations.stores := by
  intro s rs1 rs2 r1 r2 off u5 u6
  have base := s.holds_signExtend off
  have near4 := s.holds_cwOff u5
  have near8 := s.holds_cdOff u5
  have stack4 := s.holds_cwspOff u6
  have stack8 := s.holds_cdspOff u6
  exact ⟨s.store_endsStore base 4 1 (s.readX rs2) (by decide), s.store_endsStore base 4 2 (s.readX rs2) (by decide),
    s.store_endsStore base 4 4 (s.readX rs2) (by decide), s.store_endsStore base 4 8 (s.readX rs2) (by decide),
    s.store_endsStore base 4 4 (s.readF rs2) (by decide), s.store_endsStore base 4 8 (s.readF rs2) (by decide),
    s.store_endsStore near4 2 4 (s.readX r2.full) (by decide), s.store_endsStore near8 2 8 (s.readX r2.full) (by decide),
    s.store_endsStore near4 2 4 (s.readF r2.full) (by decide), s.store_endsStore near8 2 8 (s.readF r2.full) (by decide),
    s.store_endsStore stack4 2 4 (s.readX rs2) (by decide), s.store_endsStore stack8 2 8 (s.readX rs2) (by decide),
    s.store_endsStore stack4 2 4 (s.readF rs2) (by decide), s.store_endsStore stack8 2 8 (s.readF rs2) (by decide)⟩

end Sys2Proof.Machine
end

section
/-! PROOFS. The fences (20_memory.md), and the atomic instructions (44_rva.md). -/

namespace Sys2Proof.Machine

open Sys2Proof

/-! ### Fences -/

/-- Going on to the next instruction changes nothing else. -/
theorem State.advance_endsAt (s : State) (n : Nat) :
    s.EndsAt (.next (s.advance (BitVec.ofNat 64 n))) (s.upc + n) 0 0 :=
  s.doneX_endsX_of_holds s.holds_zero n 0#5

theorem Modes.has_supervisor (modes : Modes) : modes.has .supervisor = true ↔ modes = .msu := by
  cases modes <;> simp [Modes.has]

theorem toNat_append_eq {n k : Nat} (a : BitVec n) (b : BitVec k) : (a ++ b).toNat = a.toNat * 2 ^ k + b.toNat := by
  rw [BitVec.toNat_append, ← Nat.shiftLeft_add_eq_or_of_lt b.isLt, Nat.shiftLeft_eq]

theorem toNat_pack32 (f7 : BitVec 7) (rs2 rs1 : BitVec 5) (f3 : BitVec 3) (rd : BitVec 5) (op : BitVec 7) :
    (pack32 f7 rs2 rs1 f3 rd op).toNat =
      f7.toNat * 2 ^ 25 + rs2.toNat * 2 ^ 20 + rs1.toNat * 2 ^ 15 + f3.toNat * 2 ^ 12 + rd.toNat * 2 ^ 7 + op.toNat := by
  simp only [pack32, toNat_append_eq]
  ring

/-- The word of `sfence.vma`, which names its operands (R252, 42_system.md). -/
theorem word_sfence_vma (xl : Xlen) (rs1 rs2 : Reg) :
    (Instr.sfence_vma rs1 rs2).word xl = BitVec.ofNat 64 (0x12000073 + rs2.toNat * 2 ^ 20 + rs1.toNat * 2 ^ 15) := by
  have value : (pack32 0b0001001#7 rs2 rs1 0b000#3 0#5 0b1110011#7).toNat =
      0x12000073 + rs2.toNat * 2 ^ 20 + rs1.toNat * 2 ^ 15 := by
    rw [toNat_pack32, show (0b0001001#7).toNat = 9 from rfl, show (0b000#3).toNat = 0 from rfl,
      show (0#5).toNat = 0 from rfl, show (0b1110011#7).toNat = 115 from rfl]
    omega
  rw [← value, BitVec.ofNat_toNat]
  rfl

theorem sfence_vma_illegal (s : State) (rs1 rs2 : Reg) (h : s.cfg.modes ≠ .msu ∨ s.priv = .user) :
    s.EndsTrap (execSfenceVma rs1 rs2 s)
      (.illegal (BitVec.ofNat 64 (0x12000073 + rs2.toNat * 2 ^ 20 + rs1.toNat * 2 ^ 15))) 2
      (0x12000073 + rs2.toNat * 2 ^ 20 + rs1.toNat * 2 ^ 15) := by
  have small : (BitVec.ofNat 64 (0x12000073 + rs2.toNat * 2 ^ 20 + rs1.toNat * 2 ^ 15)).toNat =
      0x12000073 + rs2.toNat * 2 ^ 20 + rs1.toNat * 2 ^ 15 := by
    have h1 := rs1.isLt
    have h2 := rs2.isLt
    rw [BitVec.toNat_ofNat]
    omega
  unfold execSfenceVma
  rw [if_neg, word_sfence_vma]
  · have trap := s.raise_endsTrap (.illegal (BitVec.ofNat 64 (0x12000073 + rs2.toNat * 2 ^ 20 + rs1.toNat * 2 ^ 15)))
    rwa [Exc.info, small] at trap
  · rw [Modes.has_supervisor]
    exact fun ⟨msu, notUser⟩ => h.elim (· msu) notUser

/-- Settles O32, each fence by its effect on the state. -/
theorem fences : Obligations.fences := by
  intro s pred succ rs1 rs2
  refine ⟨s.advance_endsAt 4, ⟨_, rfl, State.truncX_toNat_of_holds (s.holds_link 4), fun _ => rfl, fun _ => rfl, rfl,
    fun _ => rfl, rfl, ?_, fun _ => rfl⟩, fun msu notUser => ?_, sfence_vma_illegal s rs1 rs2⟩
  · simp [State.SameSystem, State.SameTrap, State.SameCsr, State.SameRun]
  · change s.EndsAt (execSfenceVma rs1 rs2 s) _ _ _
    rw [execSfenceVma, if_pos ⟨(Modes.has_supervisor _).2 msu, notUser⟩]
    exact s.advance_endsAt 4

/-! ### Atomics: the checks and the word read -/

theorem State.Atomic.checks {s : State} {a : Word} {n : Nat} (h : s.Atomic a n) :
    ¬a.toNat % n ≠ 0 ∧ s.allBytes a isRam n = true :=
  ⟨not_not_intro h.1, by simpa [State.allBytes, isRam] using h.2⟩

theorem State.reserveExc_of_atomic {s : State} {a : Word} {n : Nat} (h : s.Atomic a n) : s.reserveExc a n = none := by
  obtain ⟨aligned, ram⟩ := h.checks
  rw [State.reserveExc, if_neg aligned, if_pos ram]

theorem State.atomicExc_of_atomic {s : State} {a : Word} {n : Nat} (h : s.Atomic a n) : s.atomicExc a n = none := by
  obtain ⟨aligned, ram⟩ := h.checks
  rw [State.atomicExc, if_neg aligned, if_pos ram]

theorem State.numberAt_lt (s : State) (a : Word) (n : Nat) : s.numberAt a n < 2 ^ (8 * n) := by
  rw [← s.loadBytes_eq_numberAt, State.loadBytes]
  induction n with
  | zero => simp [littleEndian]
  | succ n ih =>
    have byte := (s.loadByte (byteAddr s.cfg.xlen a n)).isLt
    have step : (s.loadByte (byteAddr s.cfg.xlen a n)).toNat * 2 ^ (8 * n) ≤ 255 * 2 ^ (8 * n) :=
      Nat.mul_le_mul_right _ (by omega)
    rw [littleEndian, Nat.mul_succ, pow_add]
    omega

/-! ### Load-reserved -/

theorem State.loadReserved_ends {s : State} {a : Word} {n : Nat} {v : Int} (rd : Reg) (ok : s.Atomic a n)
    (holds : s.Holds (sextX s.cfg.xlen (BitVec.ofNat (8 * n) (s.numberAt a n))) v) :
    Ends (s.loadReserved a n rd) fun t =>
      t.pc.toNat = s.wrap (s.upc + 4) ∧ t.ux rd = (if rd = 0#5 then 0 else s.wrap v) ∧ s.SameXBut t rd ∧
        s.SameF t ∧ t.fcsr = s.fcsr ∧ s.SameMem t ∧ s.SameTrap t ∧ s.SameCsr t ∧ s.SameRun t ∧
        t.idle = s.idle ∧ t.reservation = some { addr := a, size := n } := by
  obtain ⟨t, next, pc, value, regs, f, fcsr, mem, trap, csr, run, -, idle⟩ := s.doneX_endsX_of_holds holds 4 rd
  cases next
  refine ⟨({ s with reservation := some { addr := a, size := n } }.setX rd _).advance 4#64, ?_, pc, value, regs, f, fcsr,
    mem, trap, csr, run, idle, rfl⟩
  rw [State.loadReserved, State.reserveExc_of_atomic ok, s.loadBytes_eq_numberAt]

/-- Settles O33, by the lemma for a load-reserved of either size. -/
theorem load_reserved : Obligations.load_reserved := by
  intro s rd rs1 aq rl
  refine ⟨fun ok => ?_, fun ok => ?_⟩ <;> rw [s.addr_zero rs1] at ok ⊢
  · exact s.loadReserved_ends rd ok (BitVec.toInt_ofNat .. ▸ s.holds_sextX _)
  · refine s.loadReserved_ends rd ok ?_
    rw [sextX, BitVec.signExtend_eq]
    exact s.holds_truncX (BitVec.ofInt_natCast .. ▸ s.holds_ofInt _)

/-! ### Store-conditional -/

/-- What every store-conditional that does not trap does: it goes on, without a reservation. -/
def State.ScRest (s : State) (rd : Reg) (t : State) : Prop :=
  t.pc.toNat = s.wrap (s.upc + 4) ∧ s.SameXBut t rd ∧ s.SameF t ∧ t.fcsr = s.fcsr ∧ s.SameTrap t ∧ s.SameCsr t ∧
    s.SameRun t ∧ t.idle = s.idle ∧ t.reservation = none

/-- A store-conditional that stores. -/
def State.ScStores (s : State) (rd : Reg) (a : Word) (v n : Nat) (t : State) : Prop :=
  s.ScRest rd t ∧ s.Stored t a n v ∧ t.ux rd = 0

/-- A store-conditional that fails. -/
def State.ScFails (s : State) (rd : Reg) (t : State) : Prop :=
  s.ScRest rd t ∧ s.SameMem t ∧ (rd ≠ 0#5 → t.ux rd ≠ 0)

theorem truncX_zero (xl : Xlen) : truncX xl 0#64 = 0#64 := by cases xl <;> rfl

theorem truncX_one (xl : Xlen) : truncX xl 1#64 = 1#64 := by cases xl <;> rfl

theorem State.scStores (s : State) (rd : Reg) (a w : Word) {n : Nat} (small : n ≤ 2 ^ 32) :
    s.ScStores rd a w.toNat n ((({ s.storeBytes a w n with reservation := none }.setX rd 0#64).advance 4#64)) := by
  refine ⟨⟨?_, fun r other => ?_, s.readF_storeBytes a w n, s.storeBytes_fcsr a w n, ?_, ?_, ?_, s.storeBytes_idle a w n,
    rfl⟩, s.storeBytes_stored a small rfl, ?_⟩
  · simp only [State.advance_pc, State.setX_cfg, State.setX_pc, State.storeBytes_cfg, State.storeBytes_pc]
    exact State.truncX_toNat_of_holds (s.holds_link 4)
  · rw [State.readX_advance, State.readX_setX_ne _ _ _ _ other]
    simp [State.readX]
  · simp [State.SameTrap]
  · simp [State.SameCsr]
  · simp [State.SameRun]
  · rw [State.ux, State.readX_advance, State.readX_setX_self, truncX_zero]
    split <;> rfl

theorem State.scFails (s : State) (rd : Reg) :
    s.ScFails rd ((({ s with reservation := none }.setX rd 1#64).advance 4#64)) := by
  refine ⟨⟨State.truncX_toNat_of_holds (s.holds_link 4), fun r other => s.readX_setX_ne rd r _ other, fun _ => rfl, rfl,
    ⟨rfl, rfl, rfl, rfl, rfl, rfl, rfl, rfl, rfl, rfl⟩, ⟨rfl, rfl, rfl, rfl, rfl⟩, ⟨rfl, rfl, rfl⟩, rfl, rfl⟩,
    ⟨fun _ => rfl, rfl, rfl⟩, fun other => ?_⟩
  rw [State.ux, State.readX_advance, State.readX_setX_self, if_neg other, truncX_one]
  decide

theorem State.storeConditional_ends {s : State} {a : Word} {n : Nat} (ok : s.Atomic a n) (small : n ≤ 2 ^ 32) (w : Word)
    (rd : Reg) :
    Ends (s.storeConditional a n w rd) fun t => s.ScStores rd a w.toNat n t ∨ s.ScFails rd t := by
  rcases s.storeConditional_cases a n w rd with ⟨e, raises, -⟩ | ⟨-, -, -, stores⟩ | ⟨-, -, fails⟩
  · rw [State.atomicExc_of_atomic ok] at raises
    cases raises
  · exact ⟨_, stores, .inl (s.scStores rd a w small)⟩
  · exact ⟨_, fails, .inr (s.scFails rd)⟩

theorem State.storeConditional_stores {s : State} {a : Word} {n : Nat} (ok : s.Atomic a n) (small : n ≤ 2 ^ 32) (w : Word)
    (rd : Reg) (held : s.reservation = some { addr := a, size := n }) (never : s.cfg.scFail = .never) :
    Ends (s.storeConditional a n w rd) (s.ScStores rd a w.toNat n) := by
  have may : s.scMaySucceed a n = true := by simp [State.scMaySucceed, held]
  have notSpurious : s.spurious = false := by simp [State.spurious, never]
  rw [State.storeConditional, State.atomicExc_of_atomic ok, may, notSpurious]
  exact ⟨_, rfl, s.scStores rd a w small⟩

theorem State.storeConditional_fails {s : State} {a : Word} {n : Nat} (ok : s.Atomic a n) (w : Word) (rd : Reg)
    (outside : s.scMaySucceed a n = false) : Ends (s.storeConditional a n w rd) (s.ScFails rd) := by
  rw [State.storeConditional, State.atomicExc_of_atomic ok, outside]
  exact ⟨_, rfl, s.scFails rd⟩

/-- An access that leaves the reservation set, and so is not the reserved one, fails. -/
theorem State.scMaySucceed_outside {s : State} {a : Word} {n : Nat} {r : Reservation} (held : s.reservation = some r)
    (inside : (reservationSet s.cfg.granule r).1 ≤ r.addr.toNat ∧
      r.addr.toNat + r.size - 1 ≤ (reservationSet s.cfg.granule r).2)
    (outside : a.toNat < (reservationSet s.cfg.granule r).1 ∨ (reservationSet s.cfg.granule r).2 < a.toNat + n - 1) :
    s.scMaySucceed a n = false := by
  have other : ¬(r.addr = a ∧ r.size = n) := by
    rintro ⟨rfl, rfl⟩
    omega
  simp only [State.scMaySucceed, held, if_neg other, Bool.and_eq_false_iff, decide_eq_false_iff_not]
  exact .inl (by omega)

theorem State.scMaySucceed_released {s : State} {a : Word} {n : Nat} (released : s.reservation = none) :
    s.scMaySucceed a n = false := by
  rw [State.scMaySucceed, released]

theorem reservationSet_inside {granule : Option Nat} (pos : ∀ g, granule = some g → 0 < g) (r : Reservation) :
    (reservationSet granule r).1 ≤ r.addr.toNat ∧ r.addr.toNat + r.size - 1 ≤ (reservationSet granule r).2 := by
  cases granule with
  | none => exact ⟨le_rfl, le_rfl⟩
  | some g =>
    have below := Nat.lt_div_mul_add (a := r.addr.toNat + r.size - 1) (pos g rfl)
    exact ⟨Nat.div_mul_le_self _ _, by simp only [reservationSet]; omega⟩

theorem State.scMaySucceed_outside_bytes {s : State} {a : Word} {n : Nat} {r : Reservation} (two : 2 ≤ n)
    (held : s.reservation = some r) (exact : s.cfg.granule = none)
    (outside : a.toNat < r.addr.toNat ∨ r.addr.toNat + r.size < a.toNat + n) : s.scMaySucceed a n = false := by
  refine State.scMaySucceed_outside held (reservationSet_inside (by simp [exact]) r) ?_
  rw [exact]
  exact outside.imp id fun h => by simp only [reservationSet]; omega

theorem State.scMaySucceed_outside_blocks {s : State} {a : Word} {n g : Nat} {r : Reservation}
    (held : s.reservation = some r) (blocks : s.cfg.granule = some g) (pos : 0 < g)
    (outside : a.toNat / g < r.addr.toNat / g ∨ (r.addr.toNat + r.size - 1) / g < (a.toNat + n - 1) / g) :
    s.scMaySucceed a n = false := by
  refine State.scMaySucceed_outside held (reservationSet_inside (by simpa [blocks] using pos) r) ?_
  rw [blocks]
  refine outside.imp (Nat.div_lt_iff_lt_mul pos).1 fun h => ?_
  have next := (Nat.le_div_iff_mul_le pos).1 (Nat.succ_le_of_lt h)
  rw [Nat.succ_mul] at next
  simp only [reservationSet]
  omega

/-- Settles O34, with one claim for both sizes. -/
theorem store_conditional : Obligations.store_conditional := by
  intro s rd rs1 rs2 aq rl
  rw [s.addr_zero rs1]
  have claim (n : Nat) (two : 2 ≤ n) (small : n ≤ 2 ^ 32) (ok : s.Atomic (s.readX rs1) n) :=
    And.intro (s.storeConditional_ends ok small (s.readX rs2) rd) <|
    And.intro (s.storeConditional_stores ok small (s.readX rs2) rd) <|
    And.intro (fun released => s.storeConditional_fails ok (s.readX rs2) rd (State.scMaySucceed_released released)) <|
    And.intro (fun r held exact outside => s.storeConditional_fails ok (s.readX rs2) rd
        (State.scMaySucceed_outside_bytes (r := r) two held exact outside))
      fun r g held blocks pos outside => s.storeConditional_fails ok (s.readX rs2) rd
        (State.scMaySucceed_outside_blocks (r := r) (g := g) held blocks pos outside)
  exact ⟨claim 4 (by decide) (by decide), claim 8 (by decide) (by decide)⟩

/-! ### Atomic memory operations -/

theorem State.next_endsAmo (s : State) (rd : Reg) (a : Word) {n w : Nat} {x y : Word} {v : Int} (small : n ≤ 2 ^ 32)
    (holds : s.Holds x v) (agree : y.toNat % 2 ^ (8 * n) = w % 2 ^ (8 * n)) :
    s.EndsAmo (.next (((s.storeBytes a y n).setX rd x).advance 4#64)) rd v a n w := by
  refine ⟨_, rfl, ?_, ?_, fun r other => ?_, s.storeBytes_stored a small agree, s.readF_storeBytes a y n,
    s.storeBytes_fcsr a y n, s.storeBytes_sameSystem a y n⟩
  · simp only [State.advance_pc, State.setX_cfg, State.setX_pc, State.storeBytes_cfg, State.storeBytes_pc]
    exact State.truncX_toNat_of_holds (s.holds_link 4)
  · rw [State.ux, State.readX_advance, State.readX_setX_self, s.storeBytes_cfg, ← State.truncX_toNat_of_holds holds]
    split <;> rfl
  · rw [State.readX_advance, State.readX_setX_ne _ _ _ _ other, s.readX_storeBytes]

theorem State.amo32_endsAmo {s : State} {a : Word} (ok : s.Atomic a 4) (rd r : Reg)
    (op : BitVec 32 → BitVec 32 → BitVec 32) {w : Nat}
    (result : (op (BitVec.ofNat 32 (s.numberAt a 4)) ((s.readX r).setWidth 32)).toNat = w % 2 ^ 32) :
    s.EndsAmo (s.amo32 a (s.readX r) rd op) rd ((s.numberAt a 4 : Int).bmod (2 ^ 32)) a 4 w := by
  rw [State.amo32, State.atomicExc_of_atomic ok, s.loadBytes_eq_numberAt]
  refine s.next_endsAmo rd a (by decide) (BitVec.toInt_ofNat .. ▸ s.holds_sextX _) ?_
  rw [BitVec.toNat_setWidth, result]
  omega

theorem State.amo64_endsAmo {s : State} {a : Word} (ok : s.Atomic a 8) (rd r : Reg) (op : Word → Word → Word) {w : Nat}
    (result : (op (BitVec.ofNat 64 (s.numberAt a 8)) (s.readX r)).toNat = w % 2 ^ 64) :
    s.EndsAmo (s.amo64 a (s.readX r) rd op) rd (s.numberAt a 8) a 8 w := by
  rw [State.amo64, State.atomicExc_of_atomic ok, s.loadBytes_eq_numberAt]
  exact s.next_endsAmo rd a (by decide) (BitVec.ofInt_natCast .. ▸ s.holds_ofInt _) (by rw [result]; omega)

section
variable {w : Nat} {t src : BitVec w} {x y : Nat} {x' y' : Int}

theorem minOp_toNat (ht : t.toNat = x) (hs : src.toNat = y) (ht' : t.toInt = x') (hs' : src.toInt = y') :
    (minOp w t src).toNat = if y' < x' then y else x := by
  simp only [minOp, BitVec.slt_iff_toInt_lt, ht', hs', apply_ite BitVec.toNat, ht, hs]

theorem maxOp_toNat (ht : t.toNat = x) (hs : src.toNat = y) (ht' : t.toInt = x') (hs' : src.toInt = y') :
    (maxOp w t src).toNat = if x' < y' then y else x := by
  simp only [maxOp, BitVec.slt_iff_toInt_lt, ht', hs', apply_ite BitVec.toNat, ht, hs]

theorem minuOp_toNat (ht : t.toNat = x) (hs : src.toNat = y) : (minuOp w t src).toNat = min x y := by
  simp only [minuOp, BitVec.ult_iff_lt, BitVec.lt_def, apply_ite BitVec.toNat, ht, hs, min_def]
  split <;> split <;> omega

theorem maxuOp_toNat (ht : t.toNat = x) (hs : src.toNat = y) : (maxuOp w t src).toNat = max x y := by
  simp only [maxuOp, BitVec.ult_iff_lt, BitVec.lt_def, apply_ite BitVec.toNat, ht, hs, max_def]
  split <;> split <;> omega

/-- The number of a result is below `2^w`. -/
theorem toNat_eq_mod {b : BitVec w} {n : Nat} (h : b.toNat = n) : b.toNat = n % 2 ^ w := by
  rw [← h, Nat.mod_eq_of_lt b.isLt]

end

/-- Settles O35, by the lemma for a word operation, applied to each of the nine. -/
theorem amo_words : Obligations.amo_words := by
  intro s rd rs1 rs2 aq rl
  rw [s.addr_zero rs1]
  have old : (BitVec.ofNat 32 (s.numberAt (s.readX rs1) 4)).toNat = s.numberAt (s.readX rs1) 4 := by
    rw [BitVec.toNat_ofNat, Nat.mod_eq_of_lt (s.numberAt_lt _ 4)]
  have old' : (BitVec.ofNat 32 (s.numberAt (s.readX rs1) 4)).toInt = _ := BitVec.toInt_ofNat ..
  have src := s.readX_low32_toNat rs2
  have src' := s.readX_low32_toInt rs2
  have ends {w : Nat} (op : BitVec 32 → BitVec 32 → BitVec 32) (result) (ok : s.Atomic (s.readX rs1) 4) :=
    s.amo32_endsAmo (w := w) ok rd rs2 op result
  exact ⟨ends (fun _ src => src) (toNat_eq_mod src),
    ends (fun t src => t + src) (by rw [BitVec.toNat_add, old, src]),
    ends (fun t src => t ^^^ src) (toNat_eq_mod (by rw [BitVec.toNat_xor, old, src])),
    ends (fun t src => t &&& src) (toNat_eq_mod (by rw [BitVec.toNat_and, old, src])),
    ends (fun t src => t ||| src) (toNat_eq_mod (by rw [BitVec.toNat_or, old, src])),
    ends (minOp 32) (toNat_eq_mod (minOp_toNat old src old' src')),
    ends (maxOp 32) (toNat_eq_mod (maxOp_toNat old src old' src')),
    ends (minuOp 32) (toNat_eq_mod (minuOp_toNat old src)),
    ends (maxuOp 32) (toNat_eq_mod (maxuOp_toNat old src))⟩

/-- Settles O36, by the lemma for a doubleword operation, applied to each of the nine. -/
theorem amo_doublewords : Obligations.amo_doublewords := by
  intro s rd rs1 rs2 aq rl rv64
  rw [s.addr_zero rs1]
  have old : (BitVec.ofNat 64 (s.numberAt (s.readX rs1) 8)).toNat = s.numberAt (s.readX rs1) 8 := by
    rw [BitVec.toNat_ofNat, Nat.mod_eq_of_lt (s.numberAt_lt _ 8)]
  have old' : (BitVec.ofNat 64 (s.numberAt (s.readX rs1) 8)).toInt = _ := BitVec.toInt_ofNat ..
  have src : (s.readX rs2).toNat = s.ux rs2 := rfl
  have src' : (s.readX rs2).toInt = s.sx rs2 := by
    rw [BitVec.toInt_eq_toNat_bmod, State.sx, s.modulus_eq_two_pow, rv64]
    rfl
  have ends {w : Nat} (op : Word → Word → Word) (result) (ok : s.Atomic (s.readX rs1) 8) :=
    s.amo64_endsAmo (w := w) ok rd rs2 op result
  exact ⟨ends (fun _ src => src) (toNat_eq_mod src),
    ends (fun t src => t + src) (by rw [BitVec.toNat_add, old, src]),
    ends (fun t src => t ^^^ src) (toNat_eq_mod (by rw [BitVec.toNat_xor, old, src])),
    ends (fun t src => t &&& src) (toNat_eq_mod (by rw [BitVec.toNat_and, old, src])),
    ends (fun t src => t ||| src) (toNat_eq_mod (by rw [BitVec.toNat_or, old, src])),
    ends (minOp 64) (toNat_eq_mod (minOp_toNat old src old' src')),
    ends (maxOp 64) (toNat_eq_mod (maxOp_toNat old src old' src')),
    ends (minuOp 64) (toNat_eq_mod (minuOp_toNat old src)),
    ends (maxuOp 64) (toNat_eq_mod (maxuOp_toNat old src))⟩

end Sys2Proof.Machine
end

section
/-! PROOFS. The pseudoinstructions of more than one instruction: `call`, `tail`, `lla`, `la` and `li` (48_pseudo.md). -/

namespace Sys2Proof.Machine

open Sys2Proof

/-! ### One instruction after another -/

/-- What the first of two instructions that write `x[rd]` leaves to the second. -/
structure State.Wrote (s : State) (p : Int) (rd : Reg) (v : Int) (u : State) : Prop where
  pc : u.pc.toNat = s.wrap p
  value : u.ux rd = if rd = 0#5 then 0 else s.wrap v
  others : s.SameXBut u rd
  f : s.SameF u
  fcsr : u.fcsr = s.fcsr
  mem : s.SameMem u
  system : s.SameSystem u

theorem State.Wrote.cfg {s u : State} {p v : Int} {rd : Reg} (h : s.Wrote p rd v u) : u.cfg = s.cfg :=
  h.system.2.2.1.1

theorem State.wrap_congr {s u : State} (cfg : u.cfg = s.cfg) (v : Int) : u.wrap v = s.wrap v := by
  rw [State.wrap, State.modulus, cfg]
  rfl

theorem State.SameTrap.trans {s t u : State} (h : s.SameTrap t) (h' : t.SameTrap u) : s.SameTrap u := by
  obtain ⟨a1, a2, a3, a4, a5, a6, a7, a8, a9, a10⟩ := h
  obtain ⟨b1, b2, b3, b4, b5, b6, b7, b8, b9, b10⟩ := h'
  exact ⟨b1.trans a1, b2.trans a2, b3.trans a3, b4.trans a4, b5.trans a5, b6.trans a6, b7.trans a7, b8.trans a8,
    b9.trans a9, b10.trans a10⟩

theorem State.SameCsr.trans {s t u : State} (h : s.SameCsr t) (h' : t.SameCsr u) : s.SameCsr u := by
  obtain ⟨a1, a2, a3, a4, a5⟩ := h
  obtain ⟨b1, b2, b3, b4, b5⟩ := h'
  exact ⟨b1.trans a1, b2.trans a2, b3.trans a3, b4.trans a4, b5.trans a5⟩

theorem State.SameSystem.trans {s t u : State} (h : s.SameSystem t) (h' : t.SameSystem u) : s.SameSystem u := by
  obtain ⟨trap, csr, ⟨cfg, inputs, tick⟩, reservation, idle⟩ := h
  obtain ⟨trap', csr', ⟨cfg', inputs', tick'⟩, reservation', idle'⟩ := h'
  exact ⟨trap.trans trap', csr.trans csr', ⟨cfg'.trans cfg, inputs'.trans inputs, tick'.trans tick⟩,
    reservation'.trans reservation, idle'.trans idle⟩

theorem State.SameMem.trans {s t u : State} (h : s.SameMem t) (h' : t.SameMem u) : s.SameMem u := by
  obtain ⟨read, stale, trace⟩ := h
  obtain ⟨read', stale', trace'⟩ := h'
  exact ⟨fun a => (read' a).trans (read a), stale'.trans stale, trace'.trans trace⟩

/-- An instruction that writes `x[rd]` after one that wrote it. -/
theorem State.Wrote.endsAt {s u : State} {o : Outcome} {p v p' v' : Int} {rd : Reg} (h : s.Wrote p rd v u)
    (ends : u.EndsAt o p' rd v') : s.EndsAt o p' rd v' := by
  obtain ⟨t, next, pc, value, others, f, fcsr, mem, system⟩ := ends
  refine ⟨t, next, pc.trans (State.wrap_congr h.cfg p'), value.trans (by rw [State.wrap_congr h.cfg]),
    fun r other => (others r other).trans (h.others r other), fun r => (f r).trans (h.f r), fcsr.trans h.fcsr,
    h.mem.trans mem, h.system.trans system⟩

theorem State.EndsAt.andThen {s : State} {o : Outcome} {k : State → Outcome} {p v p' v' : Int} {rd : Reg}
    (first : s.EndsAt o p rd v) (second : ∀ u, s.Wrote p rd v u → u.EndsAt (k u) p' rd v') :
    s.EndsAt (andThen o k) p' rd v' := by
  obtain ⟨u, rfl, pc, value, others, f, fcsr, mem, system⟩ := first
  have wrote : s.Wrote p rd v u := ⟨pc, value, others, f, fcsr, mem, system⟩
  exact wrote.endsAt (second u wrote)

/-! ### Numbers modulo `2^XLEN` after the first instruction -/

theorem State.wrap_emod (s : State) (a b : Int) : s.wrap (a % s.modulus + b) = s.wrap (a + b) := by
  rw [State.wrap, State.wrap, Int.emod_add_emod]

theorem State.wrap_wrap_add (s : State) (a b : Int) : s.wrap (s.wrap a + b) = s.wrap (a + b) := by
  rw [s.wrap_cast, s.wrap_emod]

theorem State.EndsAt.congr {s : State} {o : Outcome} {p v p' v' : Int} {rd : Reg} (h : s.EndsAt o p rd v)
    (pc : s.wrap p = s.wrap p') (value : rd ≠ 0#5 → s.wrap v = s.wrap v') : s.EndsAt o p' rd v' := by
  unfold State.EndsAt at *
  rw [← pc]
  by_cases zero : rd = 0#5
  · simpa only [if_pos zero] using h
  · rwa [← value zero]

theorem State.Wrote.upc {s u : State} {p v : Int} {rd : Reg} (h : s.Wrote p rd v u) : u.upc = s.wrap p :=
  congrArg Nat.cast h.pc

/-- The pc after the second instruction. -/
theorem State.Wrote.wrap_upc {s u : State} {p v : Int} {rd : Reg} (h : s.Wrote p rd v u) (n : Int) :
    u.wrap (u.upc + n) = s.wrap (p + n) := by
  rw [State.wrap_congr h.cfg, h.upc, s.wrap_wrap_add]

/-- A sum with the register after the first instruction, where `x0` counts as 0. -/
theorem State.Wrote.wrap_ux {s u : State} {p v : Int} {rd : Reg} (h : s.Wrote p rd v u) (n : Int) :
    u.wrap (u.ux rd + n) = s.wrap ((if rd = 0#5 then 0 else v) + n) := by
  rw [State.wrap_congr h.cfg, h.value]
  split
  · rfl
  · exact s.wrap_wrap_add v n

/-! ### `call`, `tail`, `lla` and `la` -/

theorem exec_auipc_endsAt (s : State) (rd : Reg) (hi : BitVec 20) :
    s.EndsAt (execAuipc rd hi s) (s.upc + 4) rd (s.upc + hi.toInt * 2 ^ 12) :=
  s.doneX_endsX_of_holds (s.holds_truncX (s.holds_add s.holds_pc (s.holds_sextX_append hi 12 (by decide)))) 4 rd

/-- The address of the symbol after `auipc`: with `rd` = `x0` the upper part is lost. -/
def State.symbol (s : State) (rd : Reg) (hi : BitVec 20) (lo : BitVec 12) : Int :=
  (if rd = 0#5 then 0 else s.upc + hi.toInt * 2 ^ 12) + lo.toInt

/-- A value that needs the pc eight bytes on. -/
theorem State.EndsAt.after_auipc {s : State} {rd : Reg} {hi : BitVec 20} {k : State → Outcome} {v : Int}
    (second : ∀ u, s.Wrote (s.upc + 4) rd (s.upc + hi.toInt * 2 ^ 12) u →
      ∃ v', u.EndsAt (k u) (u.upc + 4) rd v' ∧ s.wrap v' = s.wrap v) :
    s.EndsAt (Machine.andThen (execAuipc rd hi s) k) (s.upc + 8) rd v := by
  refine (exec_auipc_endsAt s rd hi).andThen fun u wrote => ?_
  obtain ⟨v', ends, same⟩ := second u wrote
  refine ends.congr ?_ (fun _ => by rw [State.wrap_congr wrote.cfg, same, State.wrap_congr wrote.cfg])
  rw [wrote.wrap_upc, State.wrap_congr wrote.cfg, add_assoc]
  rfl

theorem exec_addi_endsAt (s : State) (rd rs1 : Reg) (imm : BitVec 12) :
    s.EndsAt (execAddi rd rs1 imm s) (s.upc + 4) rd (s.ux rs1 + imm.toInt) :=
  s.doneX_endsX_of_holds (s.holds_liftX_add (s.holds_readX rs1) (s.holds_sextX imm)) 4 rd

theorem exec_lla_endsX (s : State) (rd : Reg) (hi : BitVec 20) (lo : BitVec 12) :
    s.EndsX (execLla rd hi lo s) 8 rd (s.symbol rd hi lo) :=
  State.EndsAt.after_auipc fun u wrote =>
    ⟨_, exec_addi_endsAt u rd rd lo, by rw [← State.wrap_congr wrote.cfg]; exact wrote.wrap_ux _⟩

/-- The jump to the symbol, which links past both instructions. -/
theorem exec_jalr_after_auipc {s : State} {link rd : Reg} {hi : BitVec 20} {lo : BitVec 12} {v : Int}
    (ok : s.TargetOk (s.symbol rd hi lo))
    (ends : ∀ u, s.Wrote (s.upc + 4) rd (s.upc + hi.toInt * 2 ^ 12) u → u.TargetOk (u.ux rd + lo.toInt) →
      u.EndsAt (execJalr link rd lo u) (u.masked (u.ux rd + lo.toInt)) rd v) :
    s.EndsAt (andThen (execAuipc rd hi s) (execJalr link rd lo)) (s.masked (s.symbol rd hi lo)) rd v := by
  refine (exec_auipc_endsAt s rd hi).andThen fun u wrote => ?_
  have target : u.wrap (u.ux rd + lo.toInt) = s.wrap (s.symbol rd hi lo) := wrote.wrap_ux _
  have ends := ends u wrote (by rwa [State.TargetOk, target, wrote.cfg])
  rwa [State.masked, target] at ends

theorem State.Wrote.accessible {s u : State} {p v : Int} {rd : Reg} (h : s.Wrote p rd v u) {a : Word} {n : Nat}
    (ok : s.Accessible a n) : u.Accessible a n := by
  unfold State.Accessible State.classAt at *
  rwa [h.cfg]

theorem State.Wrote.numberAt {s u : State} {p v : Int} {rd : Reg} (h : s.Wrote p rd v u) (a : Word) (n : Nat) :
    u.numberAt a n = s.numberAt a n := by
  have byte (b : Nat) : u.loadByte b = s.loadByte b := by
    unfold State.loadByte State.classAt
    rw [h.cfg, h.mem.1, h.system.2.2.1.2.2]
  simp only [State.numberAt, byte, h.cfg]

theorem State.Wrote.addr {s u : State} {rd : Reg} {hi : BitVec 20}
    (h : s.Wrote (s.upc + 4) rd (s.upc + hi.toInt * 2 ^ 12) u) (lo : BitVec 12) :
    u.addr rd lo.toInt = BitVec.ofNat 64 (s.wrap (s.symbol rd hi lo)) := by
  rw [State.addr, h.wrap_ux]
  rfl

theorem State.wrap_bmod32 {s : State} (rv32 : s.cfg.xlen = .rv32) (v : Int) : s.wrap (v.bmod (2 ^ 32)) = s.wrap v := by
  unfold State.wrap State.modulus
  rw [rv32]
  exact congrArg Int.toNat Int.bmod_emod

/-- The word in the Global Offset Table, which `lw` reads at XLEN = 32. -/
theorem exec_la_got32 (s : State) (rd : Reg) (hi : BitVec 20) (lo : BitVec 12) (rv32 : s.cfg.xlen = .rv32)
    (ok : s.Accessible (BitVec.ofNat 64 (s.wrap (s.symbol rd hi lo))) 4) :
    s.EndsX (execLa rd true hi lo s) 8 rd (s.numberAt (BitVec.ofNat 64 (s.wrap (s.symbol rd hi lo))) 4) := by
  unfold execLa
  rw [rv32]
  refine State.EndsAt.after_auipc fun u wrote => ?_
  have loaded := u.load_signed (r := rd) (u.holds_signExtend lo) 4 4 rd
  rw [wrote.addr] at loaded
  refine ⟨_, loaded (wrote.accessible ok), ?_⟩
  rw [wrote.numberAt]
  exact State.wrap_bmod32 rv32 _

/-- The doubleword in the Global Offset Table, which `ld` reads at XLEN = 64. -/
theorem exec_la_got64 (s : State) (rd : Reg) (hi : BitVec 20) (lo : BitVec 12) (rv64 : s.cfg.xlen = .rv64)
    (ok : s.Accessible (BitVec.ofNat 64 (s.wrap (s.symbol rd hi lo))) 8) :
    s.EndsX (execLa rd true hi lo s) 8 rd (s.numberAt (BitVec.ofNat 64 (s.wrap (s.symbol rd hi lo))) 8) := by
  unfold execLa
  rw [rv64]
  refine State.EndsAt.after_auipc fun u wrote => ?_
  have loaded := u.load_unsigned (r := rd) (u.holds_signExtend lo) 4 8 rd
  rw [wrote.addr] at loaded
  exact ⟨_, loaded (wrote.accessible ok), by rw [wrote.numberAt]⟩

/-- An instruction that writes no register leaves each with its value. -/
theorem State.EndsAt.keeps {s : State} {o : Outcome} {p v : Int} (h : s.EndsAt o p 0#5 v) (r : Reg) :
    s.EndsAt o p r (s.ux r) := by
  obtain ⟨t, next, pc, -, others, rest⟩ := h
  have same (r : Reg) : t.readX r = s.readX r := by
    by_cases zero : r = 0#5
    · rw [zero, State.readX_zero, State.readX_zero]
    · exact others r zero
  refine ⟨t, next, pc, ?_, fun r' _ => same r', rest⟩
  rw [State.ux, same r, s.wrap_ux]
  split
  · next zero => rw [zero, State.readX_zero]; rfl
  · rfl

/-- Settles O27, each expansion from the state after its first instruction. -/
theorem pseudo_symbols : Obligations.pseudo_symbols := by
  intro s rd hi lo
  refine ⟨fun ok => ?_, fun ok => ?_, exec_lla_endsX s rd hi lo, exec_lla_endsX s rd hi lo, exec_la_got32 s rd hi lo,
    exec_la_got64 s rd hi lo⟩
  · refine exec_jalr_after_auipc (link := rd) ok fun u wrote ok => ?_
    refine (exec_jalr_endsAt u rd rd lo ok).congr rfl fun _ => ?_
    rw [wrote.wrap_upc, State.wrap_congr wrote.cfg, add_assoc]
    rfl
  · have symbol : s.symbol 6#5 hi lo = s.upc + hi.toInt * 2 ^ 12 + lo.toInt := rfl
    rw [← symbol] at ok ⊢
    refine exec_jalr_after_auipc (link := 0#5) ok fun u wrote ok => ?_
    refine (exec_jalr_endsAt u 0#5 6#5 lo ok).keeps 6#5 |>.congr rfl fun _ => ?_
    rw [u.wrap_ux, wrote.value, State.wrap_congr wrote.cfg]
    rfl

/-! ### `li` -/

/-- What a step of `li` makes of the number in `x[rd]`. -/
def LiStep.value (v : Int) : LiStep → Int
  | .small imm => imm.toInt
  | .upper imm => imm.toInt * 2 ^ 12
  | .add imm => v + imm.toInt
  | .addw imm => word32 (v + imm.toInt)
  | .shift => v * 2 ^ 12

theorem word32_congr {u v : Int} (h : u % 2 ^ 32 = v % 2 ^ 32) : word32 u = word32 v := by
  have same : u % ((2 ^ 32 : Nat) : Int) = v % ((2 ^ 32 : Nat) : Int) := h
  rw [word32, word32, ← Int.emod_bmod u, same, Int.emod_bmod]

theorem liStep_endsX (s : State) (rd : Reg) (step : LiStep) :
    s.EndsX (runLiStep rd step s) 4 rd (LiStep.value (s.ux rd) step) := by
  cases step with
  | small imm => exact (exec_addi_endsAt s rd 0#5 imm).congr_value (Int.zero_add _)
  | upper imm => exact s.doneX_endsX_of_holds (s.holds_sextX_append imm 12 (by decide)) 4 rd
  | add imm => exact exec_addi_endsAt s rd rd imm
  | addw imm =>
    refine (s.doneX_endsX_of_holds (s.holds_addW (low32_signExtend imm)) 4 rd).congr_value (word32_congr ?_)
    rw [State.ux32]
    omega
  | shift => exact s.doneX_endsX_of_holds (s.holds_sllX rd 12) 4 rd

theorem two_pow_32_dvd_modulus (s : State) : (2 ^ 32 : Int) ∣ s.modulus := by
  unfold State.modulus
  cases s.cfg.xlen <;> decide

/-- A step of `li` computes modulo `2^XLEN`. -/
theorem State.wrap_liStep (s : State) (step : LiStep) (v : Int) :
    s.wrap (LiStep.value (s.wrap v) step) = s.wrap (LiStep.value v step) := by
  cases step with
  | small | upper => rfl
  | add imm => exact s.wrap_wrap_add v _
  | addw imm =>
    refine congrArg s.wrap (word32_congr ?_)
    rw [s.wrap_cast, Int.add_emod, Int.emod_emod_of_dvd _ (two_pow_32_dvd_modulus s), ← Int.add_emod]
  | shift =>
    unfold LiStep.value
    rw [s.wrap_cast, State.wrap, State.wrap, Int.mul_emod, Int.emod_emod_of_dvd _ dvd_rfl, ← Int.mul_emod]

theorem runLi_snoc (rd : Reg) (steps : List LiStep) (step : LiStep) (s : State) :
    runLi rd (steps ++ [step]) s = andThen (runLi rd steps s) (runLiStep rd step) := by
  induction steps generalizing s with
  | nil =>
    change andThen (runLiStep rd step s) (runLi rd []) = runLiStep rd step s
    cases runLiStep rd step s <;> rfl
  | cons first rest ih =>
    rw [List.cons_append, runLi, runLi]
    cases runLiStep rd first s with
    | next u => exact ih u
    | fault | refused => rfl

/-- The steps of `li` one after another. -/
theorem runLi_endsX (s : State) (rd : Reg) (steps : List LiStep) (last : LiStep) :
    s.EndsX (runLi rd (steps ++ [last]) s) (4 * (steps ++ [last]).length) rd
      ((steps ++ [last]).foldl LiStep.value (s.ux rd)) := by
  induction steps using List.reverseRecOn generalizing last with
  | nil =>
    rw [runLi_snoc]
    exact liStep_endsX s rd last
  | append_singleton steps step ih =>
    rw [runLi_snoc, List.foldl_append]
    refine (ih step).andThen fun u wrote => ?_
    refine (liStep_endsX u rd last).congr ?_ fun other => ?_
    · rw [wrote.wrap_upc, State.wrap_congr wrote.cfg]
      congr 1
      simp only [List.length_append, List.length_singleton]
      push_cast
      ring
    · rw [wrote.value, if_neg other, State.wrap_congr wrote.cfg, State.wrap_congr wrote.cfg, s.wrap_liStep]
      rfl

/-- A constant less its sign-extended lower part. -/
theorem toNat_sub_signExtend {n w : Nat} (c : BitVec w) (lo : BitVec n) :
    ((c - lo.signExtend w).toNat : Int) = (c.toNat - lo.toInt) % 2 ^ w := by
  have eq : c - lo.signExtend w = BitVec.ofInt w (c.toNat - lo.toInt) := by
    rw [ofInt_sub, ofNat_toNat_self]
    rfl
  rw [eq, BitVec.toNat_ofInt, Int.toNat_of_nonneg (Int.emod_nonneg _ (by positivity))]
  norm_cast

theorem toNat_low12 {w : Nat} (c : BitVec w) : (c.extractLsb' 0 12).toNat = c.toNat % 2 ^ 12 := by
  rw [BitVec.extractLsb'_toNat, Nat.shiftRight_zero]

/-- The two parts of a 32-bit constant: the upper one makes up for the sign of the lower one. -/
theorem li_parts (c : BitVec 32) :
    ((c - (c.extractLsb' 0 12).signExtend 32).extractLsb' 12 20).toInt * 2 ^ 12 % 2 ^ 32 =
      (c.toInt - (c.extractLsb' 0 12).toInt) % 2 ^ 32 := by
  have low := toNat_low12 c
  have rest := toNat_sub_signExtend c (c.extractLsb' 0 12)
  have upper : ((c - (c.extractLsb' 0 12).signExtend 32).extractLsb' 12 20).toNat =
      (c - (c.extractLsb' 0 12).signExtend 32).toNat / 2 ^ 12 % 2 ^ 20 := by
    rw [BitVec.extractLsb'_toNat, Nat.shiftRight_eq_div_pow]
  generalize (c - (c.extractLsb' 0 12).signExtend 32).extractLsb' 12 20 = hi at *
  generalize c - (c.extractLsb' 0 12).signExtend 32 = d at *
  generalize c.extractLsb' 0 12 = lo at *
  have signed := BitVec.toInt_eq_toNat_cond hi
  have signed' := BitVec.toInt_eq_toNat_cond c
  have signed'' := BitVec.toInt_eq_toNat_cond lo
  have := c.isLt
  omega

/-- A constant that its lower part gives already. -/
theorem toInt_of_fits {n w : Nat} {c : BitVec w} {lo : BitVec n} (le : n ≤ w) (fits : lo.signExtend w = c) :
    lo.toInt = c.toInt := by
  rw [← fits, BitVec.toInt_signExtend_of_le le]

theorem word32_toInt (c : BitVec 32) : word32 c.toInt = c.toInt := by
  rw [word32, ← BitVec.toInt_ofInt, BitVec.ofInt_toInt]

/-- The steps for a 32-bit constant leave it, sign-extended at XLEN = 64. -/
theorem foldl_liSteps32_rv64 (c : BitVec 32) (v : Int) : (liSteps32 .rv64 c).foldl LiStep.value v = c.toInt := by
  have parts := li_parts c
  dsimp only [liSteps32]
  split
  · next fits => exact toInt_of_fits (by decide) fits
  · have whole : word32 (((c - (c.extractLsb' 0 12).signExtend 32).extractLsb' 12 20).toInt * 2 ^ 12 +
        (c.extractLsb' 0 12).toInt) = c.toInt := (word32_congr (by omega)).trans (word32_toInt c)
    split
    · next zero =>
      rw [zero] at whole ⊢
      refine Eq.trans ?_ whole
      change _ * 2 ^ 12 = word32 (_ * 2 ^ 12 + 0)
      rw [Int.add_zero, ← toInt_append_zeros _ _ (by decide), word32_toInt]
    · exact whole

/-- The steps for a 32-bit constant leave it, modulo `2^32` at XLEN = 32. -/
theorem foldl_liSteps32_rv32 (c : BitVec 32) (v : Int) :
    (liSteps32 .rv32 c).foldl LiStep.value v % 2 ^ 32 = c.toInt % 2 ^ 32 := by
  have parts := li_parts c
  dsimp only [liSteps32]
  split
  · next fits => exact congrArg (· % 2 ^ 32) (toInt_of_fits (by decide) fits)
  · split
    · next zero =>
      rw [zero] at parts
      rw [zero]
      exact parts.trans (by simp)
    · change (_ * 2 ^ 12 + _) % 2 ^ 32 = _
      omega

/-- What a round of `li` sends to the rounds before it: the constant less its lower part, divided by `2^12`. -/
theorem li_round (c : Word) :
    let rest := ((c - (c.extractLsb' 0 12).signExtend 64).sshiftRight 12).toInt
    (rest * 2 ^ 12 + (c.extractLsb' 0 12).toInt) % 2 ^ 64 = c.toInt % 2 ^ 64 ∧
      ∀ b : Int, -(2 ^ 12 * b) ≤ c.toInt → c.toInt ≤ 2 ^ 12 * b → -b ≤ rest ∧ rest ≤ b := by
  intro rest
  have shifted : rest = (c - (c.extractLsb' 0 12).signExtend 64).toInt / 2 ^ 12 := toInt_sshiftRight_eq_div _ 12
  have low := toNat_low12 c
  have diff := toNat_sub_signExtend c (c.extractLsb' 0 12)
  generalize c - (c.extractLsb' 0 12).signExtend 64 = d at *
  generalize c.extractLsb' 0 12 = lo at *
  have signed := BitVec.toInt_eq_toNat_cond d
  have signed' := BitVec.toInt_eq_toNat_cond c
  have signed'' := BitVec.toInt_eq_toNat_cond lo
  have := c.isLt
  exact ⟨by omega, fun b lower upper => by omega⟩

/-- A constant of at most 28 bits is that of its low word. -/
theorem toInt_low_word {c : Word} (lower : -2 ^ 27 ≤ c.toInt) (upper : c.toInt ≤ 2 ^ 27) :
    (c.setWidth 32).toInt = c.toInt := by
  rw [← BitVec.ofInt_toInt (x := c), setWidth_ofInt (by decide), BitVec.toInt_ofInt, BitVec.ofInt_toInt]
  apply Int.bmod_eq_of_le <;> omega

/-- Each round leaves 12 bits fewer to the rounds before it, so the fuel is enough. -/
theorem foldl_liSteps64 (fuel : Nat) (c : Word) (v : Int) (lower : -2 ^ (27 + 12 * fuel) ≤ c.toInt)
    (upper : c.toInt ≤ 2 ^ (27 + 12 * fuel)) :
    (liSteps64 fuel c).foldl LiStep.value v % 2 ^ 64 = c.toInt % 2 ^ 64 := by
  induction fuel generalizing c with
  | zero => rw [liSteps64, foldl_liSteps32_rv64, toInt_low_word lower upper]
  | succ fuel ih =>
    unfold liSteps64
    split
    · next fits => rw [foldl_liSteps32_rv64, toInt_of_fits (by decide) fits]
    · obtain ⟨parts, bounds⟩ := li_round c
      have scale : (2 : Int) ^ (27 + 12 * (fuel + 1)) = 2 ^ 12 * 2 ^ (27 + 12 * fuel) := by ring
      obtain ⟨below, above⟩ := bounds (2 ^ (27 + 12 * fuel)) (scale ▸ lower) (scale ▸ upper)
      have before := ih _ below above
      rw [List.foldl_append]
      split
      · next zero =>
        rw [zero] at parts before ⊢
        change _ * 2 ^ 12 % 2 ^ 64 = _
        change (_ * 2 ^ 12 + 0) % 2 ^ 64 = _ at parts
        omega
      · change (_ * 2 ^ 12 + _) % 2 ^ 64 = _
        omega

theorem wrap_foldl_liSteps (s : State) (imm : Word) (v : Int)
    (fits : s.cfg.xlen = .rv32 → imm = (imm.setWidth 32).signExtend 64) :
    s.wrap ((liSteps s.cfg.xlen imm).foldl LiStep.value v) = s.wrap imm.toInt := by
  unfold State.wrap State.modulus
  cases hx : s.cfg.xlen with
  | rv32 =>
    rw [← toInt_of_fits (by decide) (fits hx).symm]
    exact congrArg Int.toNat (foldl_liSteps32_rv32 _ v)
  | rv64 =>
    have signed := BitVec.toInt_eq_toNat_cond imm
    have := imm.isLt
    exact congrArg Int.toNat (foldl_liSteps64 3 imm v (by omega) (by omega))

/-- Settles O22, as the sum of what the steps of the sequence add. -/
theorem li_loads_constant : Obligations.li_loads_constant := by
  intro s rd imm fits
  obtain ⟨steps, last, eq⟩ := (List.eq_nil_or_concat (liSteps s.cfg.xlen imm)).resolve_left (liSteps_ne_nil _ imm)
  have ends := runLi_endsX s rd steps last
  rw [← List.concat_eq_append, ← eq] at ends
  exact ends.congr rfl fun _ => wrap_foldl_liSteps s imm _ fits

end Sys2Proof.Machine
end

section
/-! PROOFS. Traps, returns, interrupts and the idle hart (42_system.md, 60_exceptions.md). -/

namespace Sys2Proof.Machine

open Sys2Proof

/-! ### Trap entry -/

theorem State.Trapped.congr_target {s t : State} {cause tval target target' : Nat} (h : s.Trapped t cause tval target)
    (same : s.wrap target = s.wrap target') : s.Trapped t cause tval target' := by
  unfold State.Trapped at *
  rwa [← same]

theorem vectored_iff (w : Word) : w.extractLsb' 0 2 = 0b01#2 ↔ w.toNat % 4 = 1 := by
  rw [← BitVec.toNat_inj, BitVec.extractLsb'_toNat, Nat.shiftRight_zero]
  rfl

/-- Where interrupt `i` enters, as a number. -/
theorem State.wrap_irqTarget (s : State) (i : Nat) :
    s.wrap (if s.mtvec.extractLsb' 0 2 = 0b01#2 then s.trapBase + BitVec.ofNat 64 (4 * i) else s.trapBase).toNat =
      s.wrap (if s.mtvec.toNat % 4 = 1 then s.handler + 4 * i else s.handler : Nat) := by
  simp only [vectored_iff]
  split
  · rw [← s.trapBase_toNat, s.wrap_natCast, s.wrap_natCast, BitVec.toNat_add, BitVec.toNat_ofNat]
    cases s.cfg.xlen <;> simp only [Xlen.bits] <;> omega
  · rw [s.trapBase_toNat]

theorem State.takeIrq_trapped (s : State) (i : Nat) :
    s.Trapped (s.takeIrq i) (2 ^ (s.cfg.xlen.bits - 1) + i) 0
      (if s.mtvec.toNat % 4 = 1 then s.handler + 4 * i else s.handler) :=
  (s.enterTrap_trapped _ 0#64 _).congr_target (s.wrap_irqTarget i)

/-- Settles O38, with the lemmas for an exception and an interrupt taken. -/
theorem trap_entry : Obligations.trap_entry :=
  ⟨fun _ => ⟨rfl, rfl, rfl, rfl, rfl, rfl, rfl, rfl, rfl, rfl, rfl⟩,
    fun s => ⟨fun e machine => (s.raise_endsTrap e).1 machine, s.takeIrq_trapped⟩⟩

theorem ecall_endsTrap (s : State) : s.EndsTrap (exec .ecall s) (.envCall s.priv)
    (match s.priv with | .user => 8 | .supervisor => 9 | .machine => 11) 0 := by
  have trap : s.EndsTrap (exec .ecall s) (.envCall s.priv) (Exc.envCall s.priv).code 0 := s.raise_endsTrap _
  revert trap
  cases s.priv <;> exact id

/-- Settles O39, each as the exception it raises. -/
theorem calls_and_breakpoints : Obligations.calls_and_breakpoints := fun s =>
  ⟨ecall_endsTrap s, s.raise_endsTrap (.breakpoint s.pc),
    s.raise_endsTrap (.breakpoint s.pc)⟩

/-! ### Returns -/

theorem word_mret (xl : Xlen) : Instr.mret.word xl = 0x30200073#64 := by rfl

theorem word_sret (xl : Xlen) : Instr.sret.word xl = 0x10200073#64 := by rfl

theorem mret_illegal (s : State) (h : s.priv ≠ .machine) :
    s.EndsTrap (execMret s) (.illegal 0x30200073) 2 0x30200073 := by
  rw [execMret, if_neg h, word_mret]
  exact s.raise_endsTrap _

theorem sret_illegal (s : State) (h : s.cfg.modes ≠ .msu ∨ s.priv = .user) :
    s.EndsTrap (execSret s) (.illegal 0x10200073) 2 0x10200073 := by
  rw [execSret, if_neg, word_sret]
  · exact s.raise_endsTrap _
  · rw [Modes.has_supervisor]
    exact fun ⟨msu, notUser⟩ => h.elim (· msu) notUser

/-- Settles O40, with the state after each return written out. -/
theorem trap_returns : Obligations.trap_returns := by
  intro s
  refine ⟨fun machine => ⟨s.returnM, if_pos machine, s.maskEpc_toNat s.mepc, rfl, rfl, rfl, rfl, rfl, rfl, rfl, rfl, rfl, rfl,
      fun _ => rfl, fun _ => rfl, rfl, ⟨fun _ => rfl, rfl, rfl⟩, ⟨rfl, rfl, rfl, rfl, rfl⟩, ⟨rfl, rfl, rfl⟩, rfl, rfl⟩,
    mret_illegal s, fun msu notUser => ⟨s.returnS, if_pos ⟨(Modes.has_supervisor _).2 msu, notUser⟩,
      s.maskEpc_toNat s.sepc, rfl, rfl, rfl, rfl, rfl, rfl, rfl, rfl, rfl, rfl,
      fun _ => rfl, fun _ => rfl, rfl, ⟨fun _ => rfl, rfl, rfl⟩, ⟨rfl, rfl, rfl, rfl, rfl⟩, ⟨rfl, rfl, rfl⟩, rfl, rfl⟩,
    sret_illegal s⟩

/-! ### Pending interrupts -/

/-- The interrupt of highest priority: external, software, timer. -/
theorem State.pendingIrq_eq_some (s : State) (i : Nat) :
    s.pendingIrq = some i ↔ s.Pending i ∧ (s.Pending 11 → i = 11) ∧ (i = 7 → ¬s.Pending 3) := by
  unfold State.pendingIrq State.Pending
  cases s.cfg.trap with
  | halt => simp
  | machine =>
    simp only [true_and, Bool.and_eq_true]
    by_cases external : s.irqPending.external = true ∧ s.irqEnable.external = true
    · grind
    by_cases software : s.irqPending.software = true ∧ s.irqEnable.software = true <;> grind

theorem State.pendingIrq_eq_none (s : State) : s.pendingIrq = none ↔ ¬∃ i, s.Pending i := by
  unfold State.pendingIrq State.Pending
  cases s.cfg.trap with
  | halt => simp
  | machine => grind

/-- Settles O41, by whether the hart idles. -/
theorem wfi_completes_or_idles : Obligations.wfi_completes_or_idles := by
  intro s
  have ends := s.advance_endsAt 4
  have completes (h : ¬(s.pendingIrq = none ∧ Config.freeWfiIdles s.tick = true)) :
      exec .wfi s = .next (s.advance 4#64) := by
    change execWfi s = _
    rw [execWfi, if_neg h]
  refine ⟨fun pending => ?_, ?_⟩
  · rw [completes fun ⟨free, _⟩ => s.pendingIrq_eq_none.1 free pending]
    exact ends
  · by_cases idles : s.pendingIrq = none ∧ Config.freeWfiIdles s.tick = true
    · refine .inr ⟨s.pendingIrq_eq_none.1 idles.1, ?_⟩
      change execWfi s = _
      rw [execWfi, if_pos idles]
    · exact .inl (completes idles ▸ ends)

theorem State.irqsEnabled_iff (s : State) : s.irqsEnabled = true ↔ (s.priv = .machine → s.mie = true) := by
  unfold State.irqsEnabled
  cases s.priv <;> simp

theorem State.irqToTake_eq_some (s : State) (i : Nat) :
    s.irqToTake = some i ↔ (s.priv = .machine → s.mie = true) ∧ s.pendingIrq = some i := by
  unfold State.irqToTake
  rw [← s.irqsEnabled_iff]
  split <;> simp [*]

/-- Settles O43, with the priority of the pending interrupts as an equivalence. -/
theorem interrupts : Obligations.interrupts := by
  refine ⟨fun s u i begun pending high low enabled => ?_, fun s quiet => ?_⟩
  · have takes : u.irqToTake = some i := (u.irqToTake_eq_some i).2 ⟨enabled, (u.pendingIrq_eq_some i).2 ⟨pending, high, low⟩⟩
    rw [begun] at takes ⊢
    refine ⟨_, ?_, s.begin.takeIrq_trapped i⟩
    rw [step, takes]
  · rw [Option.eq_none_iff_forall_ne_some]
    intro i takes
    obtain ⟨enabled, some⟩ := (s.irqToTake_eq_some i).1 takes
    have pending := ((s.pendingIrq_eq_some i).1 some).1
    rcases quiet with none | ⟨machine, off⟩ | halt
    · exact none ⟨i, pending⟩
    · simp [off] at enabled
      exact enabled machine
    · simp [State.Pending, halt] at pending

/-! ### The beginning of a step -/

theorem State.irqToTake_congr {s t : State} (cfg : t.cfg = s.cfg) (priv : t.priv = s.priv) (mie : t.mie = s.mie)
    (pending : t.irqPending = s.irqPending) (enable : t.irqEnable = s.irqEnable) : t.irqToTake = s.irqToTake := by
  unfold State.irqToTake State.irqsEnabled State.pendingIrq
  rw [cfg, priv, mie, pending, enable]

/-- An interrupt is taken when one is pending and interrupts are enabled. -/
theorem State.isSome_irqToTake (s : State) :
    s.irqToTake.isSome = true ↔ (∃ i, s.Pending i) ∧ (s.priv = .machine → s.mie = true) := by
  unfold State.irqToTake
  split
  · next enabled =>
    rw [and_iff_left (s.irqsEnabled_iff.1 enabled), Option.isSome_iff_ne_none, ne_eq, s.pendingIrq_eq_none, not_not]
  · next disabled =>
    simp only [Option.isSome_none, Bool.false_eq_true, false_iff]
    exact fun h => disabled (s.irqsEnabled_iff.2 h.2)

/-- The pc of a hart that begins a step: past its `wfi` when it idles and an interrupt is taken. -/
theorem State.wake_eq (s : State) : ∃ pc', s.wake = { s with idle := false, pc := pc' } ∧
    ((s.idle = true ∧ s.irqToTake.isSome = true → pc'.toNat = s.wrap (s.upc + 4)) ∧
      (¬(s.idle = true ∧ s.irqToTake.isSome = true) → pc' = s.pc)) := by
  rcases s.wake_cases with ⟨running, h⟩ | ⟨idle, none, h⟩ | ⟨i, idle, some, h⟩
  · exact ⟨s.pc, by rw [h, ← running], by simp [running], fun _ => rfl⟩
  · exact ⟨s.pc, h, by simp [none], fun _ => rfl⟩
  · exact ⟨_, h, fun _ => State.truncX_toNat_of_holds (s.holds_link 4), fun h => absurd ⟨idle, by simp [some]⟩ h⟩

/-- Settles O6, with the inputs that a step samples named. -/
theorem step_begins : Obligations.step_begins := by
  intro s
  obtain ⟨pending, inputs, sampled, stay, next⟩ : ∃ pending inputs,
      { s with tick := s.tick + 1 }.sampleIrqs =
        { s with tick := s.tick + 1, irqPending := pending, irqInputs := inputs } ∧
      (s.cfg.trap = .halt ∨ s.irqInputs = [] → pending = s.irqPending ∧ inputs = s.irqInputs) ∧
      (s.cfg.trap = .machine → ∀ b rest, s.irqInputs = b :: rest → pending = b ∧ inputs = rest) := by
    rcases State.sampleIrqs_cases { s with tick := s.tick + 1 } with ⟨none, h⟩ | ⟨b, rest, machine, some, h⟩
    · refine ⟨s.irqPending, s.irqInputs, h, fun _ => ⟨rfl, rfl⟩, fun machine b rest some => ?_⟩
      simp [machine, some] at none
    · refine ⟨b, rest, h, fun empty => ?_, fun _ b' rest' some' => ?_⟩
      · simp [show s.cfg.trap = .machine from machine, show s.irqInputs = b :: rest from some] at empty
      · cases some.symm.trans some'
        exact ⟨rfl, rfl⟩
  obtain ⟨pc', woken, wakes, stays⟩ := State.wake_eq { s with tick := s.tick + 1, irqPending := pending, irqInputs := inputs }
  have begun : s.begin = { s with irqPending := pending, irqInputs := inputs, tick := s.tick + 1, idle := false, pc := pc' } := by
    rw [State.begin, sampled, woken]
  refine ⟨pending, inputs, pc', begun, stay, next, ?_⟩
  rw [State.isSome_irqToTake] at wakes stays
  rw [begun]
  exact ⟨wakes, stays⟩

/-! ### Fetching -/

theorem State.pc_bit_one (u : State) : ¬(u.cfg.c = false ∧ u.pc[1] = true) ↔ (u.cfg.c = true ∨ u.pc.toNat / 2 % 2 = 0) := by
  rw [getElem_one_eq, decide_eq_true_eq]
  cases u.cfg.c <;> simp

theorem State.allBytes_isRam (s : State) (a : Word) (n : Nat) :
    s.allBytes a isRam n = true ↔ ∀ i, i < n → s.classAt (byteAddr s.cfg.xlen a i) = .ram := by
  simp [State.allBytes, isRam]

theorem step_of_fetch_error {s : State} {e : Exc} (none : s.begin.irqToTake = none) (h : s.begin.fetch = .error e) :
    step s = s.begin.raise e := by
  rw [step, none, State.fetchInstr, h]

theorem State.fetchParcel_error {u : State} {a : Word} (h : ∃ k, k < 2 ∧ u.classAt (byteAddr u.cfg.xlen a k) ≠ .ram) :
    u.fetchParcel a = .error (.instrAccess a) := by
  rw [State.fetchParcel, if_neg]
  rw [u.allBytes_isRam]
  obtain ⟨k, inside, other⟩ := h
  exact fun ram => other (ram k inside)

theorem State.fetchParcel_ok {u : State} {a : Word} (h : ∀ k, k < 2 → u.classAt (byteAddr u.cfg.xlen a k) = .ram) :
    u.fetchParcel a = .ok (u.fetchByte (byteAddr u.cfg.xlen a 1) ++ u.fetchByte (byteAddr u.cfg.xlen a 0)) :=
  if_pos ((u.allBytes_isRam a 2).2 h)

theorem low_bits_append (b1 b0 : Byte) : (b1 ++ b0).extractLsb' 0 2 = 0b11#2 ↔ b0.toNat % 4 = 3 := by
  rw [← BitVec.toNat_inj, BitVec.extractLsb'_toNat, toNat_append_eq, Nat.shiftRight_zero]
  simp only [BitVec.toNat_ofNat]
  omega

/-- The address of the second parcel. -/
theorem State.second_parcel (u : State) : u.ea u.pc 2#64 = u.addr 0 (u.upc + 2) := by
  have value : (u.ea u.pc 2#64).toNat = u.wrap (u.upc + 2) := State.truncX_toNat_of_holds (u.holds_link 2)
  rw [State.addr, show ((u.ux 0 : Nat) : Int) = 0 from rfl, Int.zero_add, ← value, BitVec.ofNat_toNat, BitVec.setWidth_eq]

theorem State.addr_toNat (u : State) (r : Reg) (d : Int) : (u.addr r d).toNat = u.wrap (u.ux r + d) := by
  rw [← State.ea_eq_addr (u.holds_ofInt d)]
  exact State.truncX_toNat_of_holds (u.holds_add (u.holds_readX r) (u.holds_ofInt d))

/-- Settles O7, each exception as an answer of the fetch. -/
theorem fetch_exceptions : Obligations.fetch_exceptions := by
  rintro s u rfl none
  refine ⟨fun noC odd => ?_, fun aligned bad => ?_, fun aligned ram long bad => ?_, fun code why fetched refused => ?_⟩
  · have h : s.begin.fetch = .error (.instrMisaligned s.begin.pc) := by
      rw [State.fetch, if_pos]
      rw [getElem_one_eq, decide_eq_true_eq]
      exact ⟨noC, odd⟩
    rw [step_of_fetch_error none h]
    exact s.begin.raise_endsTrap _
  · have h : s.begin.fetch = .error (.instrAccess s.begin.pc) := by
      rw [State.fetch, if_neg (s.begin.pc_bit_one.2 aligned), State.fetchParcel_error bad]
    rw [step_of_fetch_error none h]
    exact s.begin.raise_endsTrap _
  · have h : s.begin.fetch = .error (.instrAccess (s.begin.addr 0 (s.begin.upc + 2))) := by
      rw [State.fetch, if_neg (s.begin.pc_bit_one.2 aligned), State.fetchParcel_ok ram]
      simp only [(low_bits_append _ _).2 long, if_true, s.begin.second_parcel, State.fetchParcel_error bad]
    have value : (s.begin.addr 0 (s.begin.upc + 2)).toNat = s.begin.wrap (s.begin.upc + 2) := by
      rw [s.begin.addr_toNat, show ((s.begin.ux 0 : Nat) : Int) = 0 from rfl, Int.zero_add]
    rw [step_of_fetch_error none h, ← value]
    exact s.begin.raise_endsTrap _
  · have h : s.begin.fetchInstr = .error (.illegal code.toWord) := by
      rw [State.fetchInstr, fetched]
      simp only [refused]
    rw [step, none, h]
    exact s.begin.raise_endsTrap _

/-- A byte that is not dirty is fetched from memory. -/
theorem State.fetchByte_of_clean {u : State} {a : Nat} (clean : u.stale.find a = none) : u.fetchByte a = u.mem.read a := by
  rw [State.fetchByte, clean]

theorem append_extract_bytes (h : BitVec 16) : h.extractLsb' 8 8 ++ h.extractLsb' 0 8 = h := by
  apply BitVec.eq_of_toNat_eq
  rw [toNat_append_eq, BitVec.extractLsb'_toNat, BitVec.extractLsb'_toNat, Nat.shiftRight_eq_div_pow, Nat.shiftRight_zero]
  have := h.isLt
  omega

theorem State.fetchParcel_clean {u : State} {a : Word} {h : BitVec 16}
    (low : u.classAt (byteAddr u.cfg.xlen a 0) = .ram ∧ u.stale.find (byteAddr u.cfg.xlen a 0) = none ∧
      h.extractLsb' 0 8 = u.mem.read (byteAddr u.cfg.xlen a 0))
    (high : u.classAt (byteAddr u.cfg.xlen a 1) = .ram ∧ u.stale.find (byteAddr u.cfg.xlen a 1) = none ∧
      h.extractLsb' 8 8 = u.mem.read (byteAddr u.cfg.xlen a 1)) : u.fetchParcel a = .ok h := by
  obtain ⟨ram, clean, byte⟩ := low
  obtain ⟨ram', clean', byte'⟩ := high
  rw [State.fetchParcel_ok, State.fetchByte_of_clean clean, State.fetchByte_of_clean clean', ← byte, ← byte',
    append_extract_bytes]
  intro k hk
  interval_cases k
  · exact ram
  · exact ram'

/-! ### The two lengths of an instruction (R110, 30_encoding.md) -/

theorem low_op_of_decodeFields32 {xl : Xlen} {f7 : BitVec 7} {rs2 rs1 rd : BitVec 5} {f3 : BitVec 3} {op : BitVec 7}
    {i : Instr} (h : decodeFields32 xl f7 rs2 rs1 f3 rd op = .ok i) : op.extractLsb' 0 2 = 0b11#2 := by
  unfold decodeFields32 at h
  split at h
  any_goals decide
  cases h

theorem op_of_decodeFields16 {xl : Xlen} {f3 : BitVec 3} {b12 : BitVec 1} {r1 r2 : BitVec 5} {op : BitVec 2}
    {i : Instr} (h : decodeFields16 xl f3 b12 r1 r2 op = .ok i) : op ≠ 0b11#2 := by
  unfold decodeFields16 at h
  split at h
  any_goals decide
  cases h

theorem decodeRow_of_decodeCode {cfg : Config} {code : Code} {i : Instr} (h : decodeCode cfg code = .ok i) :
    decodeRow cfg.xlen code = .ok i ∧ i.available cfg = true := by
  unfold decodeCode at h
  split at h
  · next j row =>
    unfold rowIf at h
    split at h
    · next available => cases h; exact ⟨row, available⟩
    · cases h
  · cases h

theorem low_of_decode_word {cfg : Config} {w : BitVec 32} {i : Instr} (h : decodeCode cfg (.word w) = .ok i) :
    w.extractLsb' 0 2 = 0b11#2 := by
  have low := low_op_of_decodeFields32 (decodeRow_of_decodeCode h).1
  rw [← low]
  ext k hk
  simp [fieldOp]

theorem low_of_decode_half {cfg : Config} {h : BitVec 16} {i : Instr} (decoded : decodeCode cfg (.half h) = .ok i) :
    h.extractLsb' 0 2 ≠ 0b11#2 :=
  op_of_decodeFields16 (decodeRow_of_decodeCode decoded).1

theorem State.byteAddr_second (u : State) (k : Nat) :
    byteAddr u.cfg.xlen (u.ea u.pc 2#64) k = byteAddr u.cfg.xlen u.pc (2 + k) := by
  have value : (u.ea u.pc 2#64).toNat = u.wrap (u.upc + 2) := State.truncX_toNat_of_holds (u.holds_link 2)
  unfold byteAddr
  rw [value, State.upc, show ((u.pc.toNat : Int) + 2) = ((u.pc.toNat + 2 : Nat) : Int) by push_cast; rfl, u.wrap_natCast,
    Nat.mod_add_mod, Nat.add_assoc]

/-- A halfword in clean ram is fetched. -/
theorem State.fetch_half {u : State} {h : BitVec 16} (aligned : u.cfg.c = true ∨ u.pc.toNat / 2 % 2 = 0)
    (parcel : u.fetchParcel u.pc = .ok h) (short : h.extractLsb' 0 2 ≠ 0b11#2) : u.fetch = .ok (.half h) := by
  rw [State.fetch, if_neg (u.pc_bit_one.2 aligned), parcel]
  simp only [short, if_false]

/-- A word in clean ram is fetched. -/
theorem State.fetch_word {u : State} {w : BitVec 32} (aligned : u.cfg.c = true ∨ u.pc.toNat / 2 % 2 = 0)
    (parcel : u.fetchParcel u.pc = .ok (w.extractLsb' 0 16))
    (parcel' : u.fetchParcel (u.ea u.pc 2#64) = .ok (w.extractLsb' 16 16)) (long : w.extractLsb' 0 2 = 0b11#2) :
    u.fetch = .ok (.word w) := by
  have low : (w.extractLsb' 0 16).extractLsb' 0 2 = 0b11#2 := by
    rw [← long]
    ext k hk
    simp
  have whole : w.extractLsb' 16 16 ++ w.extractLsb' 0 16 = w := by
    apply BitVec.eq_of_toNat_eq
    rw [toNat_append_eq, BitVec.extractLsb'_toNat, BitVec.extractLsb'_toNat, Nat.shiftRight_eq_div_pow, Nat.shiftRight_zero]
    have := w.isLt
    omega
  rw [State.fetch, if_neg (u.pc_bit_one.2 aligned), parcel]
  simp only [low, if_true, parcel', whole]

/-- The four bytes of a word are the two of each of its halves. -/
theorem extract_byte (w : BitVec 32) (p k : Nat) (hk : k + 8 ≤ 16) :
    (w.extractLsb' p 16).extractLsb' k 8 = w.extractLsb' (p + k) 8 := by
  ext j hj
  simp [show k + j < 16 by omega, Nat.add_assoc]

/-- Settles O5, since the fetch gives the code word whose bytes lie at the pc. -/
theorem step_runs_decoded : Obligations.step_runs_decoded := by
  rintro s u code i rfl none aligned bytes decoded
  have fetched : s.begin.fetch = .ok code := by
    cases code with
    | half h =>
      have clean (k : Nat) (hk : k < 2) := bytes k hk
      refine State.fetch_half aligned (State.fetchParcel_clean ?_ ?_) (low_of_decode_half decoded)
      · obtain ⟨ram, clean, byte⟩ := clean 0 (by decide)
        exact ⟨ram, clean, Option.some.inj byte⟩
      · obtain ⟨ram, clean, byte⟩ := clean 1 (by decide)
        exact ⟨ram, clean, Option.some.inj byte⟩
    | word w =>
      have clean (k : Nat) (hk : k < 4) := bytes k hk
      refine State.fetch_word aligned (State.fetchParcel_clean ?_ ?_) (State.fetchParcel_clean ?_ ?_)
        (low_of_decode_word decoded)
      · obtain ⟨ram, clean, byte⟩ := clean 0 (by decide)
        exact ⟨ram, clean, (extract_byte w 0 0 (by decide)).trans (Option.some.inj byte)⟩
      · obtain ⟨ram, clean, byte⟩ := clean 1 (by decide)
        exact ⟨ram, clean, (extract_byte w 0 8 (by decide)).trans (Option.some.inj byte)⟩
      · obtain ⟨ram, clean, byte⟩ := clean 2 (by decide)
        rw [State.byteAddr_second]
        exact ⟨ram, clean, (extract_byte w 16 0 (by decide)).trans (Option.some.inj byte)⟩
      · obtain ⟨ram, clean, byte⟩ := clean 3 (by decide)
        rw [State.byteAddr_second]
        exact ⟨ram, clean, (extract_byte w 16 8 (by decide)).trans (Option.some.inj byte)⟩
  have instr : s.begin.fetchInstr = .ok i := by
    rw [State.fetchInstr, fetched]
    simp only [decoded]
  rw [step, none, instr]

end Sys2Proof.Machine
end

section
/-! PROOFS. The control and status registers (10_state.md, 42_system.md). -/

namespace Sys2Proof.Machine

open Sys2Proof

/-! ### Which accesses are allowed -/

theorem csrAllowed_iff (p : Priv) (a : BitVec 12) (writes : Bool) :
    csrAllowed p a writes = true ↔
      a.toNat / 256 % 4 ≤ (privCode p).toNat ∧ (writes = true → a.toNat / 1024 ≠ 3) := by
  have level : (a.extractLsb' 8 2).toNat = a.toNat / 256 % 4 := by
    rw [BitVec.extractLsb'_toNat, Nat.shiftRight_eq_div_pow]
  have kind : a.extractLsb' 10 2 = 0b11#2 ↔ a.toNat / 1024 = 3 := by
    rw [← BitVec.toNat_inj, BitVec.extractLsb'_toNat, Nat.shiftRight_eq_div_pow]
    have := a.isLt
    simp only [BitVec.toNat_ofNat]
    omega
  simp only [csrAllowed, Bool.and_eq_true, Bool.not_eq_true', Bool.eq_false_iff, ne_eq, BitVec.ult_iff_lt, BitVec.lt_def,
    level, not_lt, beq_iff_eq, kind, not_and]

theorem State.csrFor_of_csrOk {s : State} {a : BitVec 12} {p : Prop} {writes : Bool} {c : Csr} (h : s.CsrOk a p c)
    (iff : writes = true ↔ p) : s.csrFor a writes = some c := by
  obtain ⟨named, level, kind⟩ := h
  exact State.csrFor_eq_some.2 ⟨named, (csrAllowed_iff _ _ _).2 ⟨level, fun w => kind (iff.1 w)⟩⟩

theorem State.csrFor_of_refused {s : State} {a : BitVec 12} {p : Prop} {writes : Bool} (iff : writes = true ↔ p)
    (h : csrAt s.cfg a = none ∨ (privCode s.priv).toNat < a.toNat / 256 % 4 ∨ p ∧ a.toNat / 1024 = 3) :
    s.csrFor a writes = none := by
  rw [Option.eq_none_iff_forall_ne_some]
  intro c allowed
  obtain ⟨named, checks⟩ := State.csrFor_eq_some.1 allowed
  obtain ⟨level, kind⟩ := (csrAllowed_iff _ _ _).1 checks
  rcases h with none | low | ⟨w, readOnly⟩
  · rw [none] at named; cases named
  · omega
  · exact kind (iff.2 w) readOnly

/-! ### The six instructions -/

theorem State.truncX_readCsr (s : State) (c : Csr) : truncX s.cfg.xlen (s.readCsr c) = s.readCsr c :=
  truncX_truncX _ _

/-- The end of a CSR instruction that has left the registers of `u`. -/
theorem State.next_endsCsr {s u : State} (rd : Reg) (c : Csr) (run : s.SameRun u) (x : u.x = s.x) (f : u.f = s.f)
    (pc : u.pc = s.pc) (mem : u.mem = s.mem) (stale : u.stale = s.stale) (trace : u.ioTrace = s.ioTrace)
    (reservation : u.reservation = s.reservation) (idle : u.idle = s.idle) :
    s.EndsCsr (u.doneX 4#64 rd (s.readCsr c)) rd c u := by
  obtain ⟨cfg, inputs, tick⟩ := run
  have reg (r : Reg) : u.readX r = s.readX r := by simp only [State.readX, cfg, x]
  refine ⟨_, rfl, ?_, ?_, fun r other => ?_, fun r => ?_, ⟨?_, ?_, rfl⟩, ⟨fun a => ?_, stale, trace⟩, ⟨cfg, inputs, tick⟩,
    reservation, idle⟩
  · simp only [State.advance_pc, State.setX_cfg, State.setX_pc, cfg, pc]
    exact State.truncX_toNat_of_holds (s.holds_link 4)
  · rw [State.ux, State.readX_advance, State.readX_setX_self, cfg, s.truncX_readCsr]
    split <;> rfl
  · rw [State.readX_advance, State.readX_setX_ne _ _ _ _ other, reg]
  · rw [State.readF_advance, State.readF_setX]
    simp only [State.readF, cfg, f]
  · exact ⟨rfl, rfl, rfl, rfl, rfl, rfl, rfl, rfl, rfl, rfl⟩
  · exact ⟨rfl, rfl, rfl, rfl, rfl⟩
  · simp only [State.advance_mem, State.setX_mem, mem]

theorem State.csrOp_endsCsr {s : State} (i : Instr) (rd : Reg) {a : BitVec 12} {c : Csr} {p : Prop} {writes : Bool}
    (iff : writes = true ↔ p) (ok : s.CsrOk a p c) (new : Word → Word) :
    s.EndsCsr (s.csrOp i rd a writes new) rd c (if writes then s.writeCsr c (new (s.readCsr c)) else s) := by
  rw [State.csrOp, State.csrFor_of_csrOk ok iff]
  apply State.next_endsCsr <;> cases writes <;> simp [State.SameRun]

section
variable {s : State} (rd : Reg) {a : BitVec 12} {c : Csr}

theorem exec_csrrw_endsCsr (ok : s.CsrOk a True c) (rs1 : Reg) :
    s.EndsCsr (execCsrrw rd a rs1 s) rd c (s.writeCsr c (s.readX rs1)) :=
  s.csrOp_endsCsr _ rd (by simp) ok fun _ => s.readX rs1

theorem exec_csrrwi_endsCsr (ok : s.CsrOk a True c) (z : BitVec 5) :
    s.EndsCsr (execCsrrwi rd a z s) rd c (s.writeCsr c (BitVec.ofNat 64 z.toNat)) := by
  rw [BitVec.ofNat_toNat]
  exact s.csrOp_endsCsr _ rd (by simp) ok fun _ => z.setWidth 64

/-- An operand of zero writes nothing. -/
theorem State.csrOp_endsCsr_unless {n : Nat} (z : BitVec n) (i : Instr) (ok : s.CsrOk a (z ≠ 0#n) c) (new : Word → Word) :
    s.EndsCsr (s.csrOp i rd a (z != 0#n) new) rd c (if z = 0#n then s else s.writeCsr c (new (s.readCsr c))) := by
  have ends := s.csrOp_endsCsr i rd (by simp) ok (writes := z != 0#n) new
  by_cases zero : z = 0#n
  · simpa [zero] using ends
  · simpa [zero] using ends

theorem exec_csrrs_endsCsr (rs1 : Reg) (ok : s.CsrOk a (rs1 ≠ 0#5) c) :
    s.EndsCsr (execCsrrs rd a rs1 s) rd c (if rs1 = 0#5 then s else s.writeCsr c (s.readCsr c ||| s.readX rs1)) :=
  State.csrOp_endsCsr_unless rd rs1 _ ok fun t => t ||| s.readX rs1

theorem exec_csrrc_endsCsr (rs1 : Reg) (ok : s.CsrOk a (rs1 ≠ 0#5) c) :
    s.EndsCsr (execCsrrc rd a rs1 s) rd c (if rs1 = 0#5 then s else s.writeCsr c (s.readCsr c &&& ~~~s.readX rs1)) :=
  State.csrOp_endsCsr_unless rd rs1 _ ok fun t => t &&& ~~~s.readX rs1

theorem exec_csrrsi_endsCsr (z : BitVec 5) (ok : s.CsrOk a (z ≠ 0#5) c) :
    s.EndsCsr (execCsrrsi rd a z s) rd c
      (if z = 0#5 then s else s.writeCsr c (s.readCsr c ||| BitVec.ofNat 64 z.toNat)) := by
  rw [BitVec.ofNat_toNat]
  exact State.csrOp_endsCsr_unless rd z _ ok fun t => t ||| z.setWidth 64

theorem exec_csrrci_endsCsr (z : BitVec 5) (ok : s.CsrOk a (z ≠ 0#5) c) :
    s.EndsCsr (execCsrrci rd a z s) rd c
      (if z = 0#5 then s else s.writeCsr c (s.readCsr c &&& ~~~BitVec.ofNat 64 z.toNat)) := by
  rw [BitVec.ofNat_toNat]
  exact State.csrOp_endsCsr_unless rd z _ ok fun t => t &&& ~~~z.setWidth 64

/-- A read alone. -/
theorem exec_csrr_endsCsr (ok : s.CsrOk a False c) : s.EndsCsr (execCsrrs rd a 0#5 s) rd c s :=
  exec_csrrs_endsCsr rd 0#5 (by simpa using ok)

end

/-- Settles O44, by the one lemma for each CSR instruction that passes the checks. -/
theorem csr_instructions : Obligations.csr_instructions := fun _ rd rs1 _ z _ =>
  ⟨fun ok => ⟨exec_csrrw_endsCsr rd ok rs1, exec_csrrwi_endsCsr rd ok z⟩,
    fun ok => ⟨exec_csrrs_endsCsr rd rs1 ok, exec_csrrc_endsCsr rd rs1 ok⟩,
    fun ok => ⟨exec_csrrsi_endsCsr rd z ok, exec_csrrci_endsCsr rd z ok⟩⟩

/-! ### The pseudoinstructions -/

/-- A counter can be read in every mode. -/
theorem State.csrOk_read {s : State} {a : BitVec 12} {c : Csr} (named : csrAt s.cfg a = some c)
    (user : a.toNat / 256 % 4 = 0) : s.CsrOk a False c :=
  ⟨named, by omega, False.elim⟩

theorem State.csrOk_write {s : State} {a : BitVec 12} {c : Csr} (named : csrAt s.cfg a = some c)
    (user : a.toNat / 256 % 4 = 0) (writable : a.toNat / 1024 ≠ 3) : s.CsrOk a True c :=
  ⟨named, by omega, fun _ => writable⟩

theorem Config.hasF_iff (cfg : Config) : cfg.hasF = true ↔ cfg.fp ≠ .none := bne_iff_ne

/-- Settles O45, by the CSR instruction each expands to. -/
theorem csr_pseudos : Obligations.csr_pseudos := by
  intro s rd rs1 a z c
  have read (a : BitVec 12) (c : Csr) (named : csrNamed a = some c) (present : csrExists s.cfg c = true)
      (user : a.toNat / 256 % 4 = 0) :=
    exec_csrr_endsCsr rd (State.csrOk_read (csrAt_eq_some.2 ⟨named, present⟩) user)
  refine ⟨exec_csrr_endsCsr rd, fun ok => ⟨exec_csrrw_endsCsr 0#5 ok rs1, exec_csrrwi_endsCsr 0#5 ok z⟩,
    fun ok => ⟨exec_csrrs_endsCsr 0#5 rs1 ok, exec_csrrc_endsCsr 0#5 rs1 ok⟩,
    fun ok => ⟨exec_csrrsi_endsCsr 0#5 z ok, exec_csrrci_endsCsr 0#5 z ok⟩,
    read 0xC00#12 (.counter .cycle) rfl rfl (by decide), read 0xC01#12 (.counter .time) rfl rfl (by decide),
    read 0xC02#12 (.counter .instret) rfl rfl (by decide), fun rv32 => ?_, fun f => ?_⟩
  · have high (k : Counter) : csrExists s.cfg (.counterHigh k) = true := beq_iff_eq.2 rv32
    exact ⟨read 0xC80#12 _ rfl (high .cycle) (by decide), read 0xC81#12 _ rfl (high .time) (by decide),
      read 0xC82#12 _ rfl (high .instret) (by decide)⟩
  · have hasF := (Config.hasF_iff s.cfg).2 f
    have write (a : BitVec 12) (c : Csr) (named : csrNamed a = some c) (present : csrExists s.cfg c = true)
        (user : a.toNat / 256 % 4 = 0) (writable : a.toNat / 1024 ≠ 3) :=
      exec_csrrw_endsCsr rd (State.csrOk_write (csrAt_eq_some.2 ⟨named, present⟩) user writable) rs1
    exact ⟨read 0x003#12 .fcsr rfl hasF (by decide), read 0x001#12 .fflags rfl hasF (by decide),
      read 0x002#12 .frm rfl hasF (by decide), write 0x003#12 .fcsr rfl hasF (by decide) (by decide),
      write 0x001#12 .fflags rfl hasF (by decide) (by decide), write 0x002#12 .frm rfl hasF (by decide) (by decide)⟩

/-! ### The table of the addresses -/

theorem csrAt_table (cfg : Config) (a : BitVec 12) (c : Csr) : csrAt cfg a = some c ↔
    (a, c) ∈ [(0xC00, Csr.counter .cycle), (0xC01, .counter .time), (0xC02, .counter .instret), (0x300, .mstatus),
      (0x341, .mepc)] ∨
    cfg.fp ≠ .none ∧ (a, c) ∈ [(0x001, Csr.fflags), (0x002, .frm), (0x003, .fcsr)] ∨
    cfg.xlen = .rv32 ∧ (a, c) ∈ [(0xC80, Csr.counterHigh .cycle), (0xC81, .counterHigh .time),
      (0xC82, .counterHigh .instret)] ∨
    cfg.modes = .msu ∧ (a, c) ∈ [(0x100, Csr.sstatus), (0x141, .sepc)] ∨
    cfg.trap = .machine ∧ (a, c) ∈ [(0x305, Csr.mtvec), (0x342, .mcause), (0x343, .mtval), (0x340, .mscratch),
      (0x304, .mie), (0x344, .mip)] := by
  rw [csrAt_eq_some]
  constructor
  · rintro ⟨named, present⟩
    unfold csrNamed at named
    split at named <;> cases named <;>
      simp_all [csrExists, Config.hasF_iff, Modes.has_supervisor]
  · simp only [List.mem_cons, Prod.mk.injEq, List.not_mem_nil, or_false]
    rintro (always | ⟨f, mem⟩ | ⟨rv32, mem⟩ | ⟨msu, mem⟩ | ⟨machine, mem⟩)
    · rcases always with ⟨rfl, rfl⟩ | ⟨rfl, rfl⟩ | ⟨rfl, rfl⟩ | ⟨rfl, rfl⟩ | ⟨rfl, rfl⟩ <;> exact ⟨rfl, rfl⟩
    · rcases mem with ⟨rfl, rfl⟩ | ⟨rfl, rfl⟩ | ⟨rfl, rfl⟩ <;> exact ⟨rfl, (Config.hasF_iff cfg).2 f⟩
    · rcases mem with ⟨rfl, rfl⟩ | ⟨rfl, rfl⟩ | ⟨rfl, rfl⟩ <;> exact ⟨rfl, beq_iff_eq.2 rv32⟩
    · rcases mem with ⟨rfl, rfl⟩ | ⟨rfl, rfl⟩ <;> exact ⟨rfl, (Modes.has_supervisor _).2 msu⟩
    · rcases mem with ⟨rfl, rfl⟩ | ⟨rfl, rfl⟩ | ⟨rfl, rfl⟩ | ⟨rfl, rfl⟩ | ⟨rfl, rfl⟩ | ⟨rfl, rfl⟩ <;>
        exact ⟨rfl, beq_iff_eq.2 machine⟩

/-- Settles O46, with the table of the addresses, and the refusals of a CSR access. -/
theorem csr_access_illegal : Obligations.csr_access_illegal := by
  refine ⟨csrAt_table, fun s rd rs1 a z => ?_⟩
  have illegal (i : Instr) {p : Prop} {writes : Bool} (iff : writes = true ↔ p) (new : Word → Word)
      (h : csrAt s.cfg a = none ∨ (privCode s.priv).toNat < a.toNat / 256 % 4 ∨ p ∧ a.toNat / 1024 = 3) :
      s.EndsTrap (s.csrOp i rd a writes new) (.illegal (i.word s.cfg.xlen)) 2 (i.word s.cfg.xlen).toNat := by
    rw [State.csrOp, State.csrFor_of_refused iff h]
    exact s.raise_endsTrap _
  exact ⟨illegal (.csrrw rd a rs1) (by simp) fun _ => s.readX rs1,
    illegal (.csrrwi rd a z) (by simp) fun _ => z.setWidth 64,
    illegal (.csrrs rd a rs1) (by simp) fun t => t ||| s.readX rs1,
    illegal (.csrrc rd a rs1) (by simp) fun t => t &&& ~~~s.readX rs1,
    illegal (.csrrsi rd a z) (by simp) fun t => t ||| z.setWidth 64,
    illegal (.csrrci rd a z) (by simp) fun t => t &&& ~~~z.setWidth 64⟩

/-! ### What a CSR reads after a write -/

theorem State.truncX_truncX_toNat (s : State) (v : Word) :
    (truncX s.cfg.xlen (truncX s.cfg.xlen v)).toNat = s.wrap v.toNat := by
  rw [truncX_truncX, s.truncX_toNat_eq_wrap]

theorem State.evenPc_lt (s : State) (v : Word) : s.evenPc v < s.modulus := by
  rw [← s.maskEpc_toNat, maskEpc, truncX_toNat]
  exact Nat.mod_lt _ s.modulus_pos

/-- The low bits of a value with its low bits cleared are clear already. -/
theorem State.evenPc_maskEpc (s : State) (v : Word) : s.evenPc (maskEpc s.cfg v) = s.evenPc v := by
  have value := s.maskEpc_toNat v
  have small : s.wrap (s.evenPc v : Nat) = s.evenPc v := (s.wrap_natCast _).trans (Nat.mod_eq_of_lt (s.evenPc_lt v))
  rw [State.evenPc, value, small, State.evenPc]
  cases s.cfg.c with
  | true => exact congrArg (· * 2) (Nat.mul_div_cancel _ (by decide))
  | false => exact congrArg (· * 4) (Nat.mul_div_cancel _ (by decide))

theorem State.truncX_maskEpc (s : State) (v : Word) : truncX s.cfg.xlen (maskEpc s.cfg v) = maskEpc s.cfg v :=
  truncX_truncX _ _

theorem State.read_maskEpc_toNat (s : State) (v : Word) :
    (truncX s.cfg.xlen (maskEpc s.cfg (maskEpc s.cfg v))).toNat = s.evenPc v := by
  rw [s.truncX_maskEpc, s.maskEpc_toNat, s.evenPc_maskEpc]

theorem bitAt_getLsbD (b : Bool) (i k : Nat) (hi : i < 64) : (bitAt b i).getLsbD k = (decide (k = i) && b) := by
  unfold bitAt boolWord
  cases b with
  | false => simp
  | true =>
    simp only [if_true, BitVec.getLsbD_shiftLeft, BitVec.getLsbD_one]
    by_cases eq : k = i
    · subst eq; simp [hi]
    · simp [eq]; omega

theorem truncX_getLsbD (xl : Xlen) (v : Word) {k : Nat} (hk : k < 32) : (truncX xl v).getLsbD k = v.getLsbD k := by
  cases xl with
  | rv32 => simp [truncX, hk]; omega
  | rv64 => rfl

theorem irqBits_word (v : Word) : (irqBitsOf v).word = v &&& 0x888#64 := by
  apply BitVec.eq_of_getLsbD_eq
  intro k hk
  have mask : (0x888#64).getLsbD k = (decide (k = 11) || decide (k = 7) || decide (k = 3)) := by
    interval_cases k <;> rfl
  simp only [IrqBits.word, irqBitsOf, BitVec.getLsbD_or, BitVec.getLsbD_and, mask, bitAt_getLsbD _ 11 k (by decide),
    bitAt_getLsbD _ 7 k (by decide), bitAt_getLsbD _ 3 k (by decide), ← BitVec.getLsbD_eq_getElem]
  by_cases h11 : k = 11
  · subst h11; simp
  by_cases h7 : k = 7
  · subst h7; simp
  by_cases h3 : k = 3
  · subst h3; simp
  · simp [h11, h7, h3]

theorem State.read_mie (s : State) (v : Word) : (s.writeCsr .mie v).readCsr .mie = v &&& 0x888#64 := by
  have low : (v &&& 0x888#64).toNat < 2 ^ 32 := lt_of_le_of_lt Nat.and_le_right (by decide)
  change truncX s.cfg.xlen (irqBitsOf v).word = _
  rw [irqBits_word]
  apply BitVec.eq_of_toNat_eq
  rw [truncX_toNat]
  refine Nat.mod_eq_of_lt (low.trans_le ?_)
  cases s.cfg.xlen <;> decide

/-- No write reaches another of the machine-level registers. -/
theorem State.readCsr_writeCsr_ne (s : State) (v : Word) {c d : Csr}
    (mem : c ∈ [Csr.mtvec, .mcause, .mtval, .mscratch, .mepc, .sepc, .mie, .mip]) (other : d ≠ c) :
    (s.writeCsr d v).readCsr c = s.readCsr c := by
  simp only [List.mem_cons, List.not_mem_nil, or_false] at mem
  rcases mem with rfl | rfl | rfl | rfl | rfl | rfl | rfl | rfl <;> cases d <;>
    simp only [ne_eq, not_true_eq_false, State.readCsr, State.csrValue, State.writeCsr] at other ⊢

/-- Settles O48, register by register. -/
theorem csr_write_then_read : Obligations.csr_write_then_read := fun s v _ =>
  ⟨s.truncX_truncX_toNat v, s.truncX_truncX_toNat v, s.truncX_truncX_toNat v, s.truncX_truncX_toNat v,
    s.read_maskEpc_toNat v, s.read_maskEpc_toNat v, s.read_mie v, rfl, fun _ => ⟨rfl, rfl⟩,
    fun _ mem other => s.readCsr_writeCsr_ne v mem other⟩

/-! ### The fields of `mstatus` and `sstatus` -/

/-- The named bits of `mstatus` are the fields that the model holds. -/
theorem State.mstatus_getLsbD (s : State) {k : Nat} (hk : k < 32) (named : mstatusMask.getLsbD k = true) :
    (s.readCsr .mstatus).getLsbD k =
      (decide (k = 1) && s.sie || decide (k = 5) && s.spie || decide (k = 8) && s.spp || decide (k = 3) && s.mie ||
        decide (k = 7) && s.mpie || decide (11 ≤ k) && (privCode s.mpp).getLsbD (k - 11)) := by
  have mpp : ((privCode s.mpp).setWidth 64 <<< 11).getLsbD k = (decide (11 ≤ k) && (privCode s.mpp).getLsbD (k - 11)) := by
    rw [BitVec.getLsbD_shiftLeft, BitVec.getLsbD_setWidth]
    by_cases above : 11 ≤ k
    · simp [above, show k < 64 by omega, show k - 11 < 64 by omega]
    · simp [above, Nat.lt_of_not_le above]
  rw [State.readCsr, truncX_getLsbD _ _ hk]
  simp only [State.csrValue, State.mstatusFields, State.sstatusFields, BitVec.getLsbD_or, BitVec.getLsbD_and,
    BitVec.getLsbD_not, named, Bool.not_true, Bool.and_false, Bool.false_or, mpp, bitAt_getLsbD _ 1 k (by decide),
    bitAt_getLsbD _ 5 k (by decide), bitAt_getLsbD _ 8 k (by decide), bitAt_getLsbD _ 3 k (by decide),
    bitAt_getLsbD _ 7 k (by decide)]

theorem State.sstatus_getLsbD (s : State) {k : Nat} (hk : k < 32) (named : sstatusMask.getLsbD k = true) :
    (s.readCsr .sstatus).getLsbD k =
      (decide (k = 1) && s.sie || decide (k = 5) && s.spie || decide (k = 8) && s.spp) := by
  rw [State.readCsr, truncX_getLsbD _ _ hk]
  simp only [State.csrValue, State.sstatusFields, BitVec.getLsbD_or, BitVec.getLsbD_and,
    BitVec.getLsbD_not, named, Bool.not_true, Bool.and_false, Bool.false_or, bitAt_getLsbD _ 1 k (by decide),
    bitAt_getLsbD _ 5 k (by decide), bitAt_getLsbD _ 8 k (by decide)]

/-- Bits 12:11 of `mstatus` are the code of MPP. -/
theorem State.mstatus_mpp (s : State) : (s.readCsr .mstatus).extractLsb' 11 2 = privCode s.mpp := by
  apply BitVec.eq_of_getLsbD_eq
  intro j hj
  rw [BitVec.getLsbD_extractLsb']
  interval_cases j
  · rw [s.mstatus_getLsbD (by decide) (by decide)]; simp
  · rw [s.mstatus_getLsbD (by decide) (by decide)]; simp

theorem privOfCode_privCode (p : Priv) : privOfCode (privCode p) = some p := by cases p <;> rfl

/-- MPP is the mode of the code, when that is implemented. -/
theorem legalMpp_privCode {modes : Modes} {p : Priv} (has : modes.has p = true) (tick : Nat) :
    legalMpp modes tick (privCode p) = p := by
  rw [legalMpp, privOfCode_privCode]
  exact if_pos has

/-- A mode drawn from those implemented is implemented. -/
theorem has_modeList (modes : Modes) (n : Nat) :
    modes.has ((modeList modes).getD (n % (modeList modes).length) .machine) = true := by
  have inside : n % (modeList modes).length < (modeList modes).length := by
    apply Nat.mod_lt
    cases modes <;> decide
  have all : ∀ p ∈ modeList modes, modes.has p = true := by cases modes <;> decide
  rw [List.getD_eq_getElem _ _ inside]
  exact all _ (List.getElem_mem _)

/-- MPP is always an implemented mode. -/
theorem has_legalMpp (modes : Modes) (tick : Nat) (code : BitVec 2) : modes.has (legalMpp modes tick code) = true := by
  unfold legalMpp
  split
  · split
    · assumption
    · exact has_modeList modes _
  · exact has_modeList modes _

/-- Settles O49, bit by bit, with the legal values of MPP. -/
theorem status_fields : Obligations.status_fields := by
  intro s v
  have mpp : ((s.writeCsr .mstatus v).readCsr .mstatus).extractLsb' 11 2 =
      privCode (legalMpp s.cfg.modes s.tick (v.extractLsb' 11 2)) := State.mstatus_mpp _
  refine ⟨?_, fun p has code => ?_, ⟨_, has_legalMpp _ _ _, mpp⟩, ?_, ?_⟩
  · simp only [List.mem_cons, List.not_mem_nil, or_false]
    rintro k (rfl | rfl | rfl | rfl | rfl) <;> rw [State.mstatus_getLsbD _ (by decide) (by decide)] <;>
      simp [State.writeCsr, ← BitVec.getLsbD_eq_getElem]
  · rw [mpp, code, legalMpp_privCode has]
  · simp only [List.mem_cons, List.not_mem_nil, or_false]
    rintro k (rfl | rfl | rfl) <;>
      rw [State.mstatus_getLsbD _ (by decide) (by decide), State.sstatus_getLsbD _ (by decide) (by decide)] <;>
      simp [State.writeCsr, ← BitVec.getLsbD_eq_getElem]
  · simp only [List.mem_cons, List.not_mem_nil, or_false]
    rintro k (rfl | rfl | rfl | rfl) <;>
      rw [State.mstatus_getLsbD _ (by decide) (by decide), State.mstatus_getLsbD _ (by decide) (by decide)] <;>
      simp [State.writeCsr]

/-! ### Reset (70_reset_and_hazards.md) -/

theorem Memory.insert_append {m : Memory} {a : Nat} {v : Byte} (above : ∀ c ∈ m, c.1 < a) :
    m.insert a v = m ++ [(a, v)] := by
  induction m with
  | nil => rfl
  | cons c rest ih =>
    have first := above c List.mem_cons_self
    rw [Memory.insert, if_neg (by omega), if_neg (by omega), ih fun d hd => above d (List.mem_cons_of_mem c hd)]
    rfl

theorem Memory.lt_of_sorted_append {m m' : Memory} (sorted : Memory.sorted (m ++ m') = true) {c d : Host.Cell}
    (hc : c ∈ m) (hd : d ∈ m') : c.1 < d.1 := by
  induction m with
  | nil => cases hc
  | cons e rest ih =>
    obtain ⟨tail, above⟩ := (Memory.sorted_cons e (rest ++ m')).1 sorted
    rcases List.mem_cons.1 hc with rfl | hc
    · exact above d (List.mem_append_right rest hd)
    · exact ih tail hc

/-- Writing the cells of a memory in its canonical form one after another gives that memory. -/
theorem Memory.foldl_write (size : Nat) (rest before : Memory) (wf : Memory.wf (before ++ rest) = true)
    (inside : ∀ c ∈ rest, c.1 < size) :
    rest.foldl (fun m c => Memory.write m (c.1 % size) c.2) before = before ++ rest := by
  induction rest generalizing before with
  | nil => simp
  | cons c rest ih =>
    obtain ⟨sorted, listed⟩ := Bool.and_eq_true_iff.1 wf
    have nonzero : c.2 ≠ Memory.unlisted := by
      simpa using List.all_eq_true.1 listed c (by simp)
    have written : before.write (c.1 % size) c.2 = before ++ [c] := by
      rw [Nat.mod_eq_of_lt (inside c List.mem_cons_self), Memory.write, if_neg nonzero]
      exact Memory.insert_append fun d hd => Memory.lt_of_sorted_append sorted hd List.mem_cons_self
    rw [List.foldl_cons, written, ih _ (by simpa using wf) fun d hd => inside d (List.mem_cons_of_mem c hd)]
    simp

theorem State.initial_mem {cfg : Config} {image : Memory} (u : PowerOn) (wf : image.wf = true)
    (inside : ∀ c ∈ image, c.1 < (State.initial cfg image u).modulus) : (State.initial cfg image u).mem = image :=
  Memory.foldl_write _ image [] wf inside

theorem Config.wf_iff (cfg : Config) : cfg.wf = true ↔ (cfg.resetPc.toNat < 2 ^ cfg.xlen.bits ∧
    cfg.resetPc.toNat % cfg.ialignBytes = 0) ∧ ∀ g, cfg.granule = some g → cfg.xlen.bits / 8 ≤ g := by
  unfold Config.wf
  cases cfg.granule <;> simp

theorem State.initial_pc {cfg : Config} (image : List Host.Cell) (u : PowerOn) (wf : cfg.wf = true) :
    (State.initial cfg image u).pc = cfg.resetPc := by
  apply BitVec.eq_of_toNat_eq
  exact (truncX_toNat _ _).trans (Nat.mod_eq_of_lt ((Config.wf_iff cfg).1 wf).1.1)

theorem State.initial_mip (cfg : Config) (image : List Host.Cell) (u : PowerOn) :
    (State.initial cfg image u).readCsr .mip = 0 :=
  (congrArg (truncX cfg.xlen) (show IrqBits.word ⟨false, false, false⟩ = 0#64 by decide)).trans (truncX_zero _)

/-- Settles O9, by the fields of `State.initial`. -/
theorem reset_state : Obligations.reset_state :=
  ⟨⟨rfl, rfl⟩, fun cfg image u =>
    ⟨⟨rfl, State.initial_pc image u, rfl, rfl, rfl, State.initial_mip cfg image u, rfl, rfl, rfl, rfl, rfl⟩,
      State.initial_mem u, rfl, rfl, rfl, rfl, rfl, rfl, rfl, rfl, rfl, rfl, rfl, rfl, fun has => if_pos has,
      (State.initial cfg image u).maskEpc_toNat u.mepc, (State.initial cfg image u).maskEpc_toNat u.sepc⟩⟩

/-- A value with its low bits clear is aligned. -/
theorem State.maskEpc_aligned (s : State) (v : Word) : (maskEpc s.cfg v).toNat = s.evenPc (maskEpc s.cfg v) := by
  rw [s.evenPc_maskEpc, s.maskEpc_toNat]

theorem State.initial_memoryInv (cfg : Config) (image : List Host.Cell) (u : PowerOn) :
    (State.initial cfg image u).MemoryInv :=
  ⟨Memory.wf_ofImage _ image, rfl, Memory.lt_ofImage (Nat.two_pow_pos _) image, by simp [State.initial]⟩

/-- RESET_PC is aligned. -/
theorem State.initial_pc_aligned {cfg : Config} (image : List Host.Cell) (u : PowerOn) (wf : cfg.wf = true) :
    (State.initial cfg image u).pc.toNat = (State.initial cfg image u).evenPc (State.initial cfg image u).pc := by
  obtain ⟨⟨small, aligned⟩, -⟩ := (Config.wf_iff cfg).1 wf
  have wrap : (State.initial cfg image u).wrap cfg.resetPc.toNat = cfg.resetPc.toNat :=
    (State.wrap_natCast _ _).trans (Nat.mod_eq_of_lt small)
  rw [State.initial_pc image u wf, State.evenPc, wrap]
  exact (Nat.div_mul_cancel (Nat.dvd_of_mod_eq_zero aligned)).symm

theorem Modes.has_machine (modes : Modes) : modes.has .machine = true := by cases modes <;> rfl

theorem State.initial_controlInv {cfg : Config} (image : List Host.Cell) (u : PowerOn) (wf : cfg.wf = true) :
    (State.initial cfg image u).ControlInv := by
  refine ⟨?_, ?_, State.initial_pc_aligned image u wf, (State.initial cfg image u).maskEpc_aligned u.mepc,
    (State.initial cfg image u).maskEpc_aligned u.sepc⟩
  · exact Modes.has_machine cfg.modes
  · change cfg.modes.has (if cfg.modes.has u.mpp = true then u.mpp else .machine) = true
    split
    · assumption
    · exact Modes.has_machine cfg.modes

/-- Settles O10, from the fields of `State.initial`. -/
theorem reset_invariants : Obligations.reset_invariants :=
  ⟨fun cfg image u => ⟨State.initial_memoryInv cfg image u, State.initial_controlInv image u⟩,
    State.initial_memoryInv _ _ _, State.initial_controlInv _ _ rfl⟩

/-- Settles O1, by evaluating the decoder on each word. -/
theorem example_words_decode : Obligations.example_words_decode := ⟨rfl, rfl, rfl, rfl, rfl, rfl⟩

end Sys2Proof.Machine
end

section
/-! PROOFS. The floating-point instructions (45_rvf.md, 46_rvd.md): how each ends, given the value and the flags of its arithmetic
function. -/

namespace Sys2Proof.Machine

open Sys2Proof

/-! ### Operands and results -/

theorem State.readS_toNat (s : State) (r : Reg) : (s.readS r).toNat = s.unboxed r := by
  rw [State.readS, State.unboxed]
  cases s.cfg.fp with
  | fd =>
    have upper : (s.readF r).extractLsb' 32 32 = 0xFFFFFFFF#32 ↔ (s.readF r).toNat / 2 ^ 32 = 2 ^ 32 - 1 := by
      have := (s.readF r).isLt
      rw [BitVec.toNat_eq, BitVec.extractLsb'_toNat, Nat.shiftRight_eq_div_pow]
      simp only [BitVec.toNat_ofNat]
      omega
    simp only [unbox, upper, true_and]
    split <;> simp_all
  | f => simp [unbox]
  | none => simp [unbox]

theorem State.doneS_endsS (s : State) (rd : Reg) (r : Nat × BitVec 5) : s.EndsS (s.doneS rd r) 4 rd r :=
  s.setF_endsF rd 4 (box_eq_boxed s _) r.2

theorem State.doneD_endsF {s : State} (fd : s.cfg.fp = .fd) (rd : Reg) (r : Nat × BitVec 5) :
    s.EndsF (s.doneD rd r) 4 rd (BitVec.ofNat 64 r.1) r.2 :=
  s.setF_endsF rd 4 (by rw [fd, truncF]) r.2

theorem ofNat_eq_of_toNat_eq {w n : Nat} {v : BitVec w} (h : v.toNat = n) : BitVec.ofNat w n = v := by
  rw [← h, BitVec.ofNat_toNat, BitVec.setWidth_eq]

/-- A result that is a bit pattern already, with no flag. -/
theorem State.setS_endsS (s : State) (rd : Reg) {v : BitVec 32} {n : Nat} (value : BitVec.ofNat 32 n = v) :
    s.EndsS (.next ((s.setS rd v).advance 4#64)) 4 rd (n, 0) := by
  have ends := s.doneS_endsS rd (n, 0)
  rwa [State.doneS, value, BitVec.ofNat_eq_ofNat, State.accrue_zero] at ends

theorem State.setF_endsF_double {s : State} (fd : s.cfg.fp = .fd) (rd : Reg) {v : Word} {n : Nat} (value : v.toNat = n) :
    s.EndsF (.next ((s.setF rd v).advance 4#64)) 4 rd (BitVec.ofNat 64 n) 0 := by
  have ends := s.setF_endsF rd 4 (w := v) (v := BitVec.ofNat 64 n) (by rw [fd, truncF, ofNat_eq_of_toNat_eq value]) 0#5
  rwa [State.accrue_zero] at ends

theorem State.doneI_endsI {s : State} {w : Word} {v : Int} (h : s.Holds w v) (rd : Reg) (fl : BitVec 5) :
    s.EndsI (s.doneI rd w fl) rd v fl := by
  refine ⟨_, rfl, State.truncX_toNat_of_holds (s.holds_link 4), ?_, fun r other => s.readX_setX_ne rd r w other,
    fun _ => rfl, (s.setX rd w).accrue_fflags fl, (s.setX rd w).accrue_frm fl, ⟨fun _ => rfl, rfl, rfl⟩, ?_⟩
  · rw [State.ux, State.readX_advance, ← State.truncX_toNat_of_holds h]
    exact (congrArg BitVec.toNat (s.readX_setX_self rd w)).trans (by split <;> rfl)
  · simp [State.SameSystem, State.SameTrap, State.SameCsr, State.SameRun]

theorem State.doneX_endsI {s : State} {w : Word} {v : Int} (h : s.Holds w v) (rd : Reg) :
    s.EndsI (s.doneX 4#64 rd w) rd v 0 := by
  have ends := State.doneI_endsI h rd 0
  rwa [State.doneI, BitVec.ofNat_eq_ofNat, State.accrue_zero] at ends

theorem State.withRound_some {s : State} {rm : Rounding} {mode : RoundMode} (h : s.roundMode rm = some mode) (i : Instr)
    (k : RoundMode → Outcome) : s.withRound i rm k = k mode := by
  rw [State.withRound, h]

/-! ### The instructions that round -/

section
variable {s : State} {rm : Rounding} {mode : RoundMode}

theorem State.rounded_endsS (h : s.roundMode rm = some mode) (i : Instr) (rd : Reg) (f : RoundMode → Nat × BitVec 5) :
    s.EndsS (s.withRound i rm fun mode => s.doneS rd (f mode)) 4 rd (f mode) := by
  rw [State.withRound_some h]
  exact s.doneS_endsS rd _

theorem State.rounded_endsF (h : s.roundMode rm = some mode) (i : Instr) (rd : Reg) (f : RoundMode → Nat × BitVec 5)
    (fd : s.cfg.fp = .fd) :
    s.EndsF (s.withRound i rm fun mode => s.doneD rd (f mode)) 4 rd (BitVec.ofNat 64 (f mode).1) (f mode).2 := by
  rw [State.withRound_some h]
  exact State.doneD_endsF fd rd _

end

/-- Settles O50: each instruction ends with the result of its arithmetic function. -/
theorem float_arithmetic : Obligations.float_arithmetic := by
  intro s rd a b c rm mode h
  simp only [← s.readS_toNat]
  exact ⟨s.rounded_endsS h (.fadd_s rd a b rm) rd fun mode => fpAdd .single mode (s.readS a).toNat (s.readS b).toNat,
    s.rounded_endsS h (.fsub_s rd a b rm) rd fun mode => fpSub .single mode (s.readS a).toNat (s.readS b).toNat,
    s.rounded_endsS h (.fmul_s rd a b rm) rd fun mode => fpMul .single mode (s.readS a).toNat (s.readS b).toNat,
    s.rounded_endsS h (.fdiv_s rd a b rm) rd fun mode => fpDiv .single mode (s.readS a).toNat (s.readS b).toNat,
    s.rounded_endsS h (.fsqrt_s rd a rm) rd fun mode => fpSqrt .single mode (s.readS a).toNat,
    s.rounded_endsS h (.fmadd_s rd a b c rm) rd fun mode =>
      fpMadd .single mode (s.readS a).toNat (s.readS b).toNat (s.readS c).toNat,
    s.rounded_endsS h (.fmsub_s rd a b c rm) rd fun mode =>
      fpMsub .single mode (s.readS a).toNat (s.readS b).toNat (s.readS c).toNat,
    s.rounded_endsS h (.fnmadd_s rd a b c rm) rd fun mode =>
      fpNmadd .single mode (s.readS a).toNat (s.readS b).toNat (s.readS c).toNat,
    s.rounded_endsS h (.fnmsub_s rd a b c rm) rd fun mode =>
      fpNmsub .single mode (s.readS a).toNat (s.readS b).toNat (s.readS c).toNat,
    s.rounded_endsS h (.fcvt_s_d rd a rm) rd fun mode => fpConvert .double .single mode (s.readF a).toNat,
    s.rounded_endsF h (.fcvt_d_s rd a rm) rd fun mode => fpConvert .single .double mode (s.readS a).toNat,
    s.rounded_endsF h (.fadd_d rd a b rm) rd fun mode => fpAdd .double mode (s.readF a).toNat (s.readF b).toNat,
    s.rounded_endsF h (.fsub_d rd a b rm) rd fun mode => fpSub .double mode (s.readF a).toNat (s.readF b).toNat,
    s.rounded_endsF h (.fmul_d rd a b rm) rd fun mode => fpMul .double mode (s.readF a).toNat (s.readF b).toNat,
    s.rounded_endsF h (.fdiv_d rd a b rm) rd fun mode => fpDiv .double mode (s.readF a).toNat (s.readF b).toNat,
    s.rounded_endsF h (.fsqrt_d rd a rm) rd fun mode => fpSqrt .double mode (s.readF a).toNat,
    s.rounded_endsF h (.fmadd_d rd a b c rm) rd fun mode =>
      fpMadd .double mode (s.readF a).toNat (s.readF b).toNat (s.readF c).toNat,
    s.rounded_endsF h (.fmsub_d rd a b c rm) rd fun mode =>
      fpMsub .double mode (s.readF a).toNat (s.readF b).toNat (s.readF c).toNat,
    s.rounded_endsF h (.fnmadd_d rd a b c rm) rd fun mode =>
      fpNmadd .double mode (s.readF a).toNat (s.readF b).toNat (s.readF c).toNat,
    s.rounded_endsF h (.fnmsub_d rd a b c rm) rd fun mode =>
      fpNmsub .double mode (s.readF a).toNat (s.readF b).toNat (s.readF c).toNat⟩

/-! ### The instructions that do not round -/

theorem signInject_eq_cons {m : Nat} (a b : BitVec (m + 1)) : signInject a b = BitVec.cons b.msb (a.setWidth m) := by
  apply BitVec.eq_of_getLsbD_eq
  intro k hk
  simp only [signInject, BitVec.getLsbD_or, BitVec.getLsbD_and, BitVec.getLsbD_not, BitVec.getLsbD_intMin,
    BitVec.getLsbD_cons, BitVec.getLsbD_setWidth, BitVec.msb_eq_getLsbD_last, Nat.add_sub_cancel]
  by_cases top : k = m
  · simp [top]
  · simp [top, hk, show k < m by omega]

theorem signInject_toNat {m : Nat} (a b : BitVec (m + 1)) {n : Nat} (sign : n % 2 = b.msb.toNat) :
    (signInject a b).toNat = a.toNat % 2 ^ m + n % 2 * 2 ^ m := by
  rw [signInject_eq_cons, BitVec.toNat_cons', BitVec.toNat_setWidth, Nat.shiftLeft_eq, sign, Nat.add_comm]

theorem msb_toNat {m : Nat} (b : BitVec (m + 1)) : b.toNat / 2 ^ m % 2 = b.msb.toNat := by
  have small : b.toNat / 2 ^ m < 2 := Nat.div_lt_of_lt_mul (by have := b.isLt; rwa [pow_succ] at this)
  rw [BitVec.msb_eq_decide, Nat.add_sub_cancel, Nat.mod_eq_of_lt small]
  by_cases high : 2 ^ m ≤ b.toNat
  · rw [decide_eq_true high]
    exact le_antisymm (Nat.le_of_lt_succ small) ((Nat.one_le_div_iff (Nat.two_pow_pos m)).2 high)
  · rw [decide_eq_false high]
    exact Nat.div_eq_of_lt (by omega)

section
variable {s : State} {a b : BitVec 32} {x y : Nat}

theorem State.signInject_endsS (rd : Reg) (value : a.toNat = x) {n : Nat} (sign : n % 2 = b.msb.toNat) :
    s.EndsS (.next ((s.setS rd (signInject a b)).advance 4#64)) 4 rd (x % 2 ^ 31 + n % 2 * 2 ^ 31, 0) :=
  s.setS_endsS rd (ofNat_eq_of_toNat_eq (value ▸ signInject_toNat (m := 31) a b sign))

end

theorem State.signInject_endsF {s : State} (fd : s.cfg.fp = .fd) (rd : Reg) (a b : Word) {n : Nat}
    (sign : n % 2 = b.msb.toNat) :
    s.EndsF (.next ((s.setF rd (signInject a b)).advance 4#64)) 4 rd
      (BitVec.ofNat 64 (a.toNat % 2 ^ 63 + n % 2 * 2 ^ 63)) 0 :=
  State.setF_endsF_double fd rd (signInject_toNat (m := 63) a b sign)

theorem msb_not_toNat {m : Nat} (b : BitVec (m + 1)) : (b.toNat / 2 ^ m + 1) % 2 = (~~~b).msb.toNat := by
  have bit := msb_toNat b
  rw [BitVec.msb_not]
  cases h : b.msb <;> simp [h] at bit ⊢ <;> omega

theorem msb_xor_toNat {m : Nat} (a b : BitVec (m + 1)) :
    (a.toNat / 2 ^ m + b.toNat / 2 ^ m) % 2 = (a ^^^ b).msb.toNat := by
  have bitA := msb_toNat a
  have bitB := msb_toNat b
  rw [BitVec.msb_xor]
  cases ha : a.msb <;> cases hb : b.msb <;> simp [ha, hb] at bitA bitB ⊢ <;> omega

/-- The value of a sign-injected number whose sign is its own. -/
theorem toNat_eq_signed {m : Nat} (a : BitVec (m + 1)) : a.toNat % 2 ^ m + a.toNat / 2 ^ m % 2 * 2 ^ m = a.toNat := by
  have small : a.toNat / 2 ^ m < 2 := Nat.div_lt_of_lt_mul (by have := a.isLt; rwa [pow_succ] at this)
  rw [Nat.mod_eq_of_lt small]
  exact Nat.mod_add_div' _ _

theorem State.holds_truth (s : State) (b : Bool) : s.Holds (boolWord b) (if b then 1 else 0) :=
  s.holds_boolWord b Iff.rfl

theorem State.holds_setWidth (s : State) {n : Nat} (b : BitVec n) : s.Holds (b.setWidth 64) b.toNat := s.holds_zextX b

theorem readF_low32_toInt (s : State) (r : Reg) :
    ((s.readF r).setWidth 32).toInt = word32 (s.readF r).toNat := by
  rw [word32, BitVec.toInt_setWidth]

theorem signInject_self_toNat {m : Nat} (a : BitVec (m + 1)) : (signInject a a).toNat = a.toNat :=
  (signInject_toNat a a (msb_toNat a)).trans (toNat_eq_signed a)

theorem signInjectXor_self_toNat {m : Nat} (a : BitVec (m + 1)) : (signInjectXor a a).toNat = a.toNat % 2 ^ m := by
  have even : (a.toNat / 2 ^ m + a.toNat / 2 ^ m) % 2 = 0 := by omega
  rw [signInjectXor, signInject_toNat a _ (msb_xor_toNat a a), even, Nat.zero_mul, Nat.add_zero]

/-- Settles O51: a sign injection by the value of its two parts, each other instruction by that of its function. -/
theorem float_without_rounding : Obligations.float_without_rounding := by
  intro s rd a b
  simp only [← s.readS_toNat]
  refine ⟨s.doneS_endsS rd _, s.doneS_endsS rd _, (State.doneD_endsF · rd _), (State.doneD_endsF · rd _),
    State.signInject_endsS rd rfl (msb_toNat _), State.signInject_endsS rd rfl (msb_not_toNat _),
    State.signInject_endsS rd rfl (msb_xor_toNat _ _), (State.signInject_endsF · rd _ _ (msb_toNat _)),
    (State.signInject_endsF · rd _ _ (msb_not_toNat _)), (State.signInject_endsF · rd _ _ (msb_xor_toNat _ _)),
    s.setS_endsS rd (ofNat_eq_of_toNat_eq (signInject_self_toNat (m := 31) _)),
    s.setS_endsS rd (ofNat_eq_of_toNat_eq (signInjectXor_self_toNat (m := 31) _)),
    State.signInject_endsS rd rfl (msb_not_toNat _), (State.setF_endsF_double · rd (signInject_self_toNat (m := 63) _)),
    (State.setF_endsF_double · rd (signInjectXor_self_toNat (m := 63) _)),
    (State.signInject_endsF · rd _ _ (msb_not_toNat _)),
    State.doneI_endsI (s.holds_truth _) rd _, State.doneI_endsI (s.holds_truth _) rd _,
    State.doneI_endsI (s.holds_truth _) rd _, State.doneI_endsI (s.holds_truth _) rd _,
    State.doneI_endsI (s.holds_truth _) rd _, State.doneI_endsI (s.holds_truth _) rd _,
    State.doneX_endsI (s.holds_setWidth _) rd, State.doneX_endsI (s.holds_setWidth _) rd,
    State.doneX_endsI (readF_low32_toInt s a ▸ s.holds_sextX _) rd, State.doneX_endsI (s.holds_zextX (s.readF a)) rd,
    s.setS_endsS rd (BitVec.ofNat_toNat ..),
    (State.setF_endsF_double · rd rfl)⟩

/-! ### The conversions -/

theorem fpSaturate_range {lo hi : Int} (h : lo ≤ hi) (n : Int) (exact : Bool) :
    lo ≤ (fpSaturate lo hi n exact).1 ∧ (fpSaturate lo hi n exact).1 ≤ hi := by
  unfold fpSaturate
  grind

theorem fpToInt_range (m : Fmt) (mode : RoundMode) {lo hi : Int} (h : lo ≤ hi) (a : Nat) :
    lo ≤ (fpToInt m mode lo hi a).1 ∧ (fpToInt m mode lo hi a).1 ≤ hi := by
  unfold fpToInt
  cases fpUnpack m a with
  | nan s => exact ⟨h, le_refl _⟩
  | inf neg => cases neg <;> simp [h]
  | fin neg k q => exact fpSaturate_range h _ _

/-- A number in the range of the signed words is its own low word. -/
theorem word32_fpToInt (m : Fmt) (mode : RoundMode) (a : Nat) :
    word32 (fpToInt m mode (-2 ^ 31) (2 ^ 31 - 1) a).1 = (fpToInt m mode (-2 ^ 31) (2 ^ 31 - 1) a).1 := by
  obtain ⟨low, high⟩ := fpToInt_range m mode (show (-2 ^ 31 : Int) ≤ 2 ^ 31 - 1 by decide) a
  exact Int.bmod_eq_of_le (by omega) (by omega)

theorem State.holds_sextX_ofInt32 (s : State) (v : Int) : s.Holds (sextX s.cfg.xlen (BitVec.ofInt 32 v)) (word32 v) := by
  have holds := s.holds_sextX (BitVec.ofInt 32 v)
  rwa [BitVec.toInt_ofInt] at holds

section
variable {s : State} {rm : Rounding} {mode : RoundMode}

theorem State.rounded_endsI_word (h : s.roundMode rm = some mode) (i : Instr) (rd : Reg) (f : RoundMode → Int × BitVec 5) :
    s.EndsI (s.withRound i rm fun mode => s.doneI rd (sextX s.cfg.xlen (BitVec.ofInt 32 (f mode).1)) (f mode).2) rd
      (word32 (f mode).1) (f mode).2 := by
  rw [State.withRound_some h]
  exact State.doneI_endsI (s.holds_sextX_ofInt32 _) rd _

theorem State.rounded_endsI_int (h : s.roundMode rm = some mode) (i : Instr) (rd : Reg) (m : Fmt) (a : Nat) :
    s.EndsI (s.withRound i rm fun mode => s.doneI rd
        (sextX s.cfg.xlen (BitVec.ofInt 32 (fpToInt m mode (-2 ^ 31) (2 ^ 31 - 1) a).1))
        (fpToInt m mode (-2 ^ 31) (2 ^ 31 - 1) a).2) rd
      (fpToInt m mode (-2 ^ 31) (2 ^ 31 - 1) a).1 (fpToInt m mode (-2 ^ 31) (2 ^ 31 - 1) a).2 := by
  have ends := State.rounded_endsI_word h i rd fun mode => fpToInt m mode (-2 ^ 31) (2 ^ 31 - 1) a
  rwa [word32_fpToInt] at ends

theorem State.rounded_endsI (h : s.roundMode rm = some mode) (i : Instr) (rd : Reg) (f : RoundMode → Int × BitVec 5) :
    s.EndsI (s.withRound i rm fun mode => s.doneI rd (BitVec.ofInt 64 (f mode).1) (f mode).2) rd (f mode).1 (f mode).2 := by
  rw [State.withRound_some h]
  exact State.doneI_endsI (s.holds_ofInt _) rd _

end

theorem State.sx_eq_toInt {s : State} (rv64 : s.cfg.xlen = .rv64) (r : Reg) : s.sx r = (s.readX r).toInt := by
  rw [State.sx, State.modulus, rv64, BitVec.toInt_eq_toNat_bmod]
  rfl

/-- Settles O52: the functions are those of the model, and a saturated word is its own low word. -/
theorem float_int_conversions : Obligations.float_int_conversions := by
  intro s rd a rm mode h
  simp only [← s.readS_toNat, ← s.readX_low32_toNat, ← s.readX_low32_toInt]
  exact ⟨s.rounded_endsI_int h (.fcvt_w_s rd a rm) rd .single (s.readS a).toNat,
    s.rounded_endsI_word h (.fcvt_wu_s rd a rm) rd fun mode => fpToInt .single mode _ _ (s.readS a).toNat,
    s.rounded_endsI h (.fcvt_l_s rd a rm) rd fun mode => fpToInt .single mode _ _ (s.readS a).toNat,
    s.rounded_endsI h (.fcvt_lu_s rd a rm) rd fun mode => fpToInt .single mode _ _ (s.readS a).toNat,
    s.rounded_endsI_int h (.fcvt_w_d rd a rm) rd .double (s.readF a).toNat,
    s.rounded_endsI_word h (.fcvt_wu_d rd a rm) rd fun mode => fpToInt .double mode _ _ (s.readF a).toNat,
    s.rounded_endsI h (.fcvt_l_d rd a rm) rd fun mode => fpToInt .double mode _ _ (s.readF a).toNat,
    s.rounded_endsI h (.fcvt_lu_d rd a rm) rd fun mode => fpToInt .double mode _ _ (s.readF a).toNat,
    s.rounded_endsS h (.fcvt_s_w rd a rm) rd fun mode => fpOfInt .single mode ((s.readX a).setWidth 32).toInt,
    s.rounded_endsS h (.fcvt_s_wu rd a rm) rd fun mode => fpOfInt .single mode ((s.readX a).setWidth 32).toNat,
    s.rounded_endsF h (.fcvt_d_w rd a rm) rd fun mode => fpOfInt .double mode ((s.readX a).setWidth 32).toInt,
    s.rounded_endsF h (.fcvt_d_wu rd a rm) rd fun mode => fpOfInt .double mode ((s.readX a).setWidth 32).toNat,
    fun rv64 => State.sx_eq_toInt rv64 a ▸
      ⟨s.rounded_endsS h (.fcvt_s_l rd a rm) rd fun mode => fpOfInt .single mode (s.readX a).toInt,
        s.rounded_endsF h (.fcvt_d_l rd a rm) rd fun mode => fpOfInt .double mode (s.readX a).toInt⟩,
    s.rounded_endsS h (.fcvt_s_lu rd a rm) rd fun mode => fpOfInt .single mode (s.readX a).toNat,
    s.rounded_endsF h (.fcvt_d_lu rd a rm) rd fun mode => fpOfInt .double mode (s.readX a).toNat⟩

/-! ### The rounding modes -/

theorem roundModeOf_eq (c : BitVec 3) : roundModeOf c = [RoundMode.rne, .rtz, .rdn, .rup, .rmm][c.toNat]? := by
  revert c
  decide

theorem State.roundMode_dyn (s : State) : s.roundMode .dyn = [RoundMode.rne, .rtz, .rdn, .rup, .rmm][s.fcsr.toNat / 32]? := by
  rw [← s.frm_toNat]
  exact roundModeOf_eq _

theorem State.withRound_none {s : State} {rm : Rounding} (h : s.roundMode rm = none) (i : Instr)
    (k : RoundMode → Outcome) :
    s.EndsTrap (s.withRound i rm k) (.illegal (i.word s.cfg.xlen)) 2 (i.word s.cfg.xlen).toNat := by
  rw [State.withRound, h]
  exact s.raise_endsTrap _

/-- Settles O53: an instruction with an `rm` field is a `withRound`. -/
theorem reserved_rounding_illegal : Obligations.reserved_rounding_illegal := by
  intro s rd a b c
  refine ⟨rfl, rfl, rfl, rfl, rfl, s.roundMode_dyn, fun reserved => ?_⟩
  have ends := State.withRound_none (s.roundMode_dyn.trans (List.getElem?_eq_none reserved))
  simp only [List.forall_mem_cons]
  exact ⟨ends _ _, ends _ _, ends _ _, ends _ _, ends _ _, ends _ _, ends _ _, ends _ _, ends _ _,
    ends _ _, ends _ _, ends _ _, ends _ _, ends _ _, ends _ _, ends _ _, ends _ _, ends _ _,
    ends _ _, ends _ _, ends _ _, ends _ _, ends _ _, ends _ _, ends _ _, ends _ _, ends _ _,
    ends _ _, ends _ _, ends _ _, ends _ _, ends _ _, ends _ _, ends _ _, ends _ _, ends _ _,
    fun _ absurd => nomatch absurd⟩

end Sys2Proof.Machine
end

section
/-! PROOFS. The decoder against the encoder (30_encoding.md). -/

namespace Sys2Proof.Machine

open Sys2Proof

/-! ### A word is what its fields are packed to -/

/-- A row is right for a code word: the word is that of its instruction, a machine instruction whose operands are in order. -/
def Row (xl : Xlen) (i : Instr) (code : Code) : Prop := i.code xl = code ∧ i.operandsOk xl = true ∧ isMachine xl i

theorem Row.congr {xl : Xlen} {i : Instr} {code code' : Code} (h : Row xl i code) (eq : code = code') : Row xl i code' := eq ▸ h

theorem pack32_fields (w : BitVec 32) :
    pack32 (fieldF7 w) (fieldRs2 w) (fieldRs1 w) (fieldF3 w) (fieldRd w) (fieldOp w) = w := by
  apply BitVec.eq_of_getLsbD_eq
  intro k hk
  simp only [pack32, fieldF7, fieldRs2, fieldRs1, fieldF3, fieldRd, fieldOp, BitVec.getLsbD_append,
    BitVec.getLsbD_extractLsb']
  interval_cases k <;> simp

theorem pack16_fields (h : BitVec 16) : pack16 (halfF3 h) (halfB12 h) (halfR1 h) (halfR2 h) (halfOp h) = h := by
  apply BitVec.eq_of_getLsbD_eq
  intro k hk
  simp only [pack16, halfF3, halfB12, halfR1, halfR2, halfOp, BitVec.getLsbD_append, BitVec.getLsbD_extractLsb']
  interval_cases k <;> simp

section
variable {f7 : BitVec 7} {rs2 rs1 rd : BitVec 5} {f3 : BitVec 3} {op : BitVec 7} {xl : Xlen} {i : Instr}

theorem append_split {n m : Nat} (v : BitVec (n + m)) : v.extractLsb' m n ++ v.extractLsb' 0 m = v := by
  apply BitVec.eq_of_getLsbD_eq
  intro k hk
  rw [BitVec.getLsbD_append, BitVec.getLsbD_extractLsb', BitVec.getLsbD_extractLsb']
  by_cases low : k < m
  · simp [low]
  · simp [low, show k - m < n by omega, show m + (k - m) = k by omega]

theorem extract_append_high {n m : Nat} (a : BitVec n) (b : BitVec m) : (a ++ b).extractLsb' m n = a := by
  apply BitVec.eq_of_getLsbD_eq
  intro k hk
  rw [BitVec.getLsbD_extractLsb', BitVec.getLsbD_append]
  simp [hk]

theorem extract_append_low {n m : Nat} (a : BitVec n) (b : BitVec m) : (a ++ b).extractLsb' 0 m = b := by
  apply BitVec.eq_of_getLsbD_eq
  intro k hk
  rw [BitVec.getLsbD_extractLsb', BitVec.getLsbD_append]
  simp [hk]

theorem immHi_joinI (hi : BitVec 7) (lo : BitVec 5) : immHi (joinI hi lo) = hi := extract_append_high hi lo

theorem immLo_joinI (hi : BitVec 7) (lo : BitVec 5) : immLo (joinI hi lo) = lo := extract_append_low hi lo

theorem iCode_joinI : iCode op f3 rd rs1 (joinI f7 rs2) = .word (pack32 f7 rs2 rs1 f3 rd op) := by
  rw [iCode, immHi_joinI, immLo_joinI]

theorem sCode_joinI : sCode op f3 rs1 rs2 (joinI f7 rd) = .word (pack32 f7 rs2 rs1 f3 rd op) := by
  rw [sCode, immHi_joinI, immLo_joinI]

theorem branchHi_joinB (hi : BitVec 7) (lo : BitVec 5) : branchHi (joinB hi lo) = hi := by
  apply BitVec.eq_of_getLsbD_eq
  intro k hk
  simp only [branchHi, joinB, BitVec.getLsbD_append, BitVec.getLsbD_extractLsb']
  interval_cases k <;> simp

theorem branchLo_joinB (hi : BitVec 7) (lo : BitVec 5) : branchLo (joinB hi lo) = lo := by
  apply BitVec.eq_of_getLsbD_eq
  intro k hk
  simp only [branchLo, joinB, BitVec.getLsbD_append, BitVec.getLsbD_extractLsb']
  interval_cases k <;> simp

theorem bCode_joinB : bCode f3 rs1 rs2 (joinB f7 rd) = .word (pack32 f7 rs2 rs1 f3 rd 0b1100011#7) := by
  rw [bCode, branchHi_joinB, branchLo_joinB]

theorem uCode_joinU : uCode op rd (joinU f7 rs2 rs1 f3) = .word (pack32 f7 rs2 rs1 f3 rd op) := by
  have hi : (joinU f7 rs2 rs1 f3).extractLsb' 13 7 = f7 := by
    apply BitVec.eq_of_getLsbD_eq
    intro k hk
    simp only [joinU, BitVec.getLsbD_append, BitVec.getLsbD_extractLsb']
    interval_cases k <;> simp
  have mid : (joinU f7 rs2 rs1 f3).extractLsb' 8 5 = rs2 := by
    apply BitVec.eq_of_getLsbD_eq
    intro k hk
    simp only [joinU, BitVec.getLsbD_append, BitVec.getLsbD_extractLsb']
    interval_cases k <;> simp
  have lo : (joinU f7 rs2 rs1 f3).extractLsb' 3 5 = rs1 := by
    apply BitVec.eq_of_getLsbD_eq
    intro k hk
    simp only [joinU, BitVec.getLsbD_append, BitVec.getLsbD_extractLsb']
    interval_cases k <;> simp
  rw [uCode, hi, mid, lo, joinU, extract_append_low]

theorem jumpField_jumpOff (u : BitVec 20) : jumpField (jumpOff u) = u := by
  apply BitVec.eq_of_getLsbD_eq
  intro k hk
  simp only [jumpField, jumpOff, BitVec.getLsbD_append, BitVec.getLsbD_extractLsb']
  interval_cases k <;> simp

/-! ### The rows of the 32-bit words -/

theorem row_decodeLoad {off : BitVec 12} (h : decodeLoad f3 rd rs1 off = .ok i) : Row xl i (iCode 0b0000011#7 f3 rd rs1 off) := by
  unfold decodeLoad at h
  split at h <;> cases h <;> exact ⟨rfl, rfl, rfl⟩

theorem row_decodeFpLoad {off : BitVec 12} (h : decodeFpLoad f3 rd rs1 off = .ok i) :
    Row xl i (iCode 0b0000111#7 f3 rd rs1 off) := by
  unfold decodeFpLoad at h
  split at h <;> cases h <;> exact ⟨rfl, rfl, rfl⟩

theorem row_decodeStore {off : BitVec 12} (h : decodeStore f3 rs1 rs2 off = .ok i) :
    Row xl i (sCode 0b0100011#7 f3 rs1 rs2 off) := by
  unfold decodeStore at h
  split at h <;> cases h <;> exact ⟨rfl, rfl, rfl⟩

theorem row_decodeFpStore {off : BitVec 12} (h : decodeFpStore f3 rs1 rs2 off = .ok i) :
    Row xl i (sCode 0b0100111#7 f3 rs1 rs2 off) := by
  unfold decodeFpStore at h
  split at h <;> cases h <;> exact ⟨rfl, rfl, rfl⟩

theorem row_decodeBranch {off : BitVec 12} (h : decodeBranch f3 rs1 rs2 off = .ok i) : Row xl i (bCode f3 rs1 rs2 off) := by
  unfold decodeBranch at h
  split at h <;> cases h <;> exact ⟨rfl, rfl, rfl⟩

theorem row_decodeOp (h : decodeOp f7 rs2 rs1 f3 rd = .ok i) : Row xl i (rCode 0b0110011#7 f3 f7 rd rs1 rs2) := by
  unfold decodeOp at h
  split at h <;> cases h <;> exact ⟨rfl, rfl, rfl⟩

theorem row_decodeOp32 (h : decodeOp32 f7 rs2 rs1 f3 rd = .ok i) : Row xl i (rCode 0b0111011#7 f3 f7 rd rs1 rs2) := by
  unfold decodeOp32 at h
  split at h <;> cases h <;> exact ⟨rfl, rfl, rfl⟩

theorem rowIf_ok {ok : Bool} {e : DecodeError} {j : Instr} (h : rowIf ok e j = .ok i) : ok = true ∧ j = i := by
  unfold rowIf at h
  split at h
  · next holds => cases h; exact ⟨holds, rfl⟩
  · cases h

theorem rowRm_ok {k : Rounding → Instr} (h : rowRm f3 k = .ok i) : ∃ rm : Rounding, rm.bits = f3 ∧ k rm = i := by
  unfold rowRm at h
  split at h
  · next rm named =>
    refine ⟨rm, ?_, Except.ok.inj h⟩
    unfold roundingOf at named
    split at named <;> cases named <;> rfl
  · cases h

theorem shamt_fields (f7 : BitVec 7) (lo : BitVec 5) {code : BitVec 6} (h : f7.extractLsb' 1 6 = code) :
    shCode f3 code rd rs1 (f7.extractLsb' 0 1 ++ lo) = .word (pack32 f7 lo rs1 f3 rd 0b0010011#7) := by
  rw [shCode, extract_append_high (f7.extractLsb' 0 1) lo, extract_append_low, ← h]
  exact congrArg (fun v => Code.word (pack32 v lo rs1 f3 rd _)) (append_split (n := 6) (m := 1) f7)

theorem shamtOk_of {lo : BitVec 5} (h : (xl == .rv64 || !f7[0]) = true) :
    shamtOk xl (f7.extractLsb' 0 1 ++ lo) = true := by
  cases xl with
  | rv64 => rfl
  | rv32 =>
    have clear : f7[0] = false := by simpa using h
    have top : (f7.extractLsb' 0 1 ++ lo)[5] = f7[0] := by
      rw [BitVec.getElem_append]
      simp
    exact (congrArg Bool.not (top.trans clear)).trans rfl

theorem row_decodeOpImm (h : decodeOpImm xl f7 rs2 rs1 f3 rd = .ok i) :
    Row xl i (.word (pack32 f7 rs2 rs1 f3 rd 0b0010011#7)) := by
  unfold decodeOpImm at h
  split at h
  all_goals try exact Except.ok.inj h ▸ ⟨iCode_joinI, rfl, rfl⟩
  · split at h
    · next code =>
      obtain ⟨ok, rfl⟩ := rowIf_ok h
      exact ⟨shamt_fields f7 rs2 code, shamtOk_of ok, rfl⟩
    · cases h
  · have f3_eq : f3 = 0b101#3 := by revert f3; decide
    subst f3_eq
    split at h
    · next code =>
      obtain ⟨ok, rfl⟩ := rowIf_ok h
      exact ⟨shamt_fields f7 rs2 code, shamtOk_of ok, rfl⟩
    · next code =>
      obtain ⟨ok, rfl⟩ := rowIf_ok h
      exact ⟨shamt_fields f7 rs2 code, shamtOk_of ok, rfl⟩
    · cases h

/-- The word forms of the shifts have bit 25 clear. -/
theorem f7_of_extract {code : BitVec 6} (h : f7.extractLsb' 1 6 = code) (clear : (!f7[0]) = true) : f7 = code ++ 0#1 := by
  have low : f7.extractLsb' 0 1 = 0#1 := by
    apply BitVec.eq_of_getLsbD_eq
    intro k hk
    obtain rfl : k = 0 := by omega
    simpa using clear
  rw [← append_split (n := 6) (m := 1) f7, h, low]

theorem row_decodeOpImm32 (h : decodeOpImm32 f7 rs2 rs1 f3 rd = .ok i) :
    Row xl i (.word (pack32 f7 rs2 rs1 f3 rd 0b0011011#7)) := by
  unfold decodeOpImm32 at h
  split at h
  · exact Except.ok.inj h ▸ ⟨iCode_joinI, rfl, rfl⟩
  · split at h
    · next code =>
      obtain ⟨clear, rfl⟩ := rowIf_ok h
      exact f7_of_extract code clear ▸ ⟨rfl, rfl, rfl⟩
    · cases h
  · split at h
    · next code =>
      obtain ⟨clear, rfl⟩ := rowIf_ok h
      exact f7_of_extract code clear ▸ ⟨rfl, rfl, rfl⟩
    · next code =>
      obtain ⟨clear, rfl⟩ := rowIf_ok h
      exact f7_of_extract code clear ▸ ⟨rfl, rfl, rfl⟩
    · cases h
  · cases h

theorem row_decodeFence (h : decodeFence f7 rs2 rs1 f3 rd = .ok i) :
    Row xl i (.word (pack32 f7 rs2 rs1 f3 rd 0b0001111#7)) := by
  unfold decodeFence at h
  split at h
  · split at h
    · next fields =>
      obtain ⟨high, rfl, rfl⟩ := fields
      cases h
      refine ⟨?_, rfl, rfl⟩
      rw [Instr.code, rCode, extract_append_high (f7.extractLsb' 0 3), extract_append_low, append_split (n := 1) (m := 4) rs2,
        ← high]
      exact congrArg (fun v => Code.word (pack32 v rs2 0#5 _ 0#5 _)) (append_split (n := 4) (m := 3) f7)
    · cases h
  · split at h
    · next fields =>
      obtain ⟨rfl, rfl, rfl, rfl⟩ := fields
      cases h
      exact ⟨rfl, rfl, rfl⟩
    · cases h
  · cases h

theorem amoCode_fields {code : BitVec 5} (h : f7.extractLsb' 2 5 = code) :
    amoCode f3 code rd rs1 rs2 (f7.extractLsb' 1 1) (f7.extractLsb' 0 1) =
      .word (pack32 f7 rs2 rs1 f3 rd 0b0101111#7) := by
  have joined : code ++ f7.extractLsb' 1 1 ++ f7.extractLsb' 0 1 = f7 := by
    subst h
    apply BitVec.eq_of_getLsbD_eq
    intro k hk
    simp only [BitVec.getLsbD_append, BitVec.getLsbD_extractLsb']
    interval_cases k <;> simp
  rw [amoCode, joined]

theorem row_decodeAmo (h : decodeAmo f7 rs2 rs1 f3 rd = .ok i) :
    Row xl i (.word (pack32 f7 rs2 rs1 f3 rd 0b0101111#7)) := by
  unfold decodeAmo at h
  split at h
  · next code =>
    obtain ⟨zero, rfl⟩ := rowIf_ok h
    obtain rfl := eq_of_beq zero
    exact ⟨amoCode_fields code, rfl, rfl⟩
  · next code =>
    obtain ⟨zero, rfl⟩ := rowIf_ok h
    obtain rfl := eq_of_beq zero
    exact ⟨amoCode_fields code, rfl, rfl⟩
  all_goals cases h <;> exact ⟨amoCode_fields ‹_›, rfl, rfl⟩

theorem r4_fields {fmt : BitVec 2} {rm : Rounding} (h : f7.extractLsb' 0 2 = fmt) (bits : rm.bits = f3) :
    r4Code op fmt rd rs1 rs2 (f7.extractLsb' 2 5) rm = .word (pack32 f7 rs2 rs1 f3 rd op) := by
  rw [r4Code, bits, ← h]
  exact congrArg (fun v => Code.word (pack32 v rs2 rs1 f3 rd op)) (append_split (n := 5) (m := 2) f7)

theorem row_decodeFma (h : decodeFma op f7 rs2 rs1 f3 rd = .ok i) : Row xl i (.word (pack32 f7 rs2 rs1 f3 rd op)) := by
  unfold decodeFma at h
  split at h
  on_goal 9 => cases h
  all_goals
    obtain ⟨rm, bits, rfl⟩ := rowRm_ok h
    exact ⟨r4_fields ‹_› bits, rfl, rfl⟩

theorem row_decodeFp (h : decodeFp f7 rs2 rs1 f3 rd = .ok i) :
    Row xl i (.word (pack32 f7 rs2 rs1 f3 rd 0b1010011#7)) := by
  unfold decodeFp at h
  split at h
  all_goals try split at h
  any_goals
    obtain ⟨rm, rfl, rfl⟩ := rowRm_ok h
    exact ⟨rfl, rfl, rfl⟩
  all_goals cases h <;> exact ⟨rfl, rfl, rfl⟩

theorem and_beq_zero {a b : BitVec 5} (h : (a == 0#5 && b == 0#5) = true) : a = 0#5 ∧ b = 0#5 := by
  simpa using h

theorem row_decodePriv (h : decodePriv f7 rs2 rs1 rd = .ok i) :
    Row xl i (.word (pack32 f7 rs2 rs1 0b000#3 rd 0b1110011#7)) := by
  unfold decodePriv at h
  split at h
  all_goals try split at h
  any_goals
    obtain ⟨zero, rfl⟩ := rowIf_ok h
    obtain ⟨rfl, rfl⟩ := and_beq_zero zero
    exact ⟨rfl, rfl, rfl⟩
  case h_2 =>
    obtain ⟨fields, rfl⟩ := rowIf_ok h
    obtain ⟨⟨rfl, rfl⟩, rfl⟩ : (rs2 = 0b00010#5 ∧ rs1 = 0#5) ∧ rd = 0#5 := by simpa using fields
    exact ⟨rfl, rfl, rfl⟩
  case h_4 =>
    obtain ⟨zero, rfl⟩ := rowIf_ok h
    obtain rfl := eq_of_beq zero
    exact ⟨rfl, rfl, rfl⟩
  all_goals cases h

theorem row_decodeSystem (h : decodeSystem f7 rs2 rs1 f3 rd = .ok i) :
    Row xl i (.word (pack32 f7 rs2 rs1 f3 rd 0b1110011#7)) := by
  unfold decodeSystem at h
  split at h
  · exact row_decodePriv h
  all_goals cases h <;> exact ⟨iCode_joinI, rfl, rfl⟩

/-- Each opcode has its decoder. -/
theorem row_decodeFields32 (h : decodeFields32 xl f7 rs2 rs1 f3 rd op = .ok i) :
    Row xl i (.word (pack32 f7 rs2 rs1 f3 rd op)) := by
  unfold decodeFields32 at h
  split at h
  · exact (row_decodeLoad h).congr iCode_joinI
  · exact (row_decodeFpLoad h).congr iCode_joinI
  · exact row_decodeFence h
  · exact row_decodeOpImm h
  · exact Except.ok.inj h ▸ ⟨uCode_joinU, rfl, rfl⟩
  · exact row_decodeOpImm32 h
  · exact (row_decodeStore h).congr sCode_joinI
  · exact (row_decodeFpStore h).congr sCode_joinI
  · exact row_decodeAmo h
  · exact row_decodeOp h
  · exact Except.ok.inj h ▸ ⟨uCode_joinU, rfl, rfl⟩
  · exact row_decodeOp32 h
  · exact row_decodeFma h
  · exact row_decodeFma h
  · exact row_decodeFma h
  · exact row_decodeFma h
  · exact row_decodeFp h
  · exact (row_decodeBranch h).congr bCode_joinB
  · obtain ⟨zero, rfl⟩ := rowIf_ok h
    obtain rfl := eq_of_beq zero
    exact ⟨iCode_joinI, rfl, rfl⟩
  · exact Except.ok.inj h ▸ ⟨(congrArg (uCode _ rd) (jumpField_jumpOff _)).trans uCode_joinU, rfl, rfl⟩
  · exact row_decodeSystem h
  · cases h

end

end Sys2Proof.Machine
end

section
/-! PROOFS. The rows of the 16-bit words, and that what decodes encodes to its word (30_encoding.md, section 6). -/

namespace Sys2Proof.Machine

open Sys2Proof

/-! ### The immediates of the halfwords -/

theorem ciwField_ciwImm (v : BitVec 8) : ciwField (ciwImm v) = v := by revert v; decide
theorem clwField_clwImm (v : BitVec 5) : clwField (clwImm v) = v := by revert v; decide
theorem cldField_cldImm (v : BitVec 5) : cldField (cldImm v) = v := by revert v; decide
theorem cwspField_cwspImm (v : BitVec 6) : cwspField (cwspImm v) = v := by revert v; decide
theorem cdspField_cdspImm (v : BitVec 6) : cdspField (cdspImm v) = v := by revert v; decide
theorem c16Field_c16Imm (v : BitVec 6) : c16Field (c16Imm v) = v := by revert v; decide
theorem cbField_cbOff (v : BitVec 8) : cbField (cbOff v) = v := by revert v; decide

theorem cjField_cjOff (v : BitVec 11) : cjField (cjOff v) = v := by
  apply BitVec.eq_of_getLsbD_eq
  intro k hk
  simp only [cjField, cjOff, BitVec.getLsbD_append, BitVec.getLsbD_extractLsb']
  interval_cases k <;> simp

section
variable {f3 : BitVec 3} {b12 : BitVec 1} {r1 r2 : BitVec 5} {op : BitVec 2} {xl : Xlen} {i : Instr}

/-! ### The formats of the halfwords -/

theorem creg_split (r : BitVec 5) : r.extractLsb' 3 2 ++ r.extractLsb' 0 3 = r := append_split (n := 2) (m := 3) r

theorem clCode_fields :
    clCode f3 (b12 ++ r1.extractLsb' 3 2 ++ r2.extractLsb' 3 2) (r1.extractLsb' 0 3) (r2.extractLsb' 0 3) =
      .half (pack16 f3 b12 r1 r2 0b00#2) := by
  have top : (b12 ++ r1.extractLsb' 3 2 ++ r2.extractLsb' 3 2).extractLsb' 4 1 = b12 := by
    apply BitVec.eq_of_getLsbD_eq
    intro k hk
    simp only [BitVec.getLsbD_append, BitVec.getLsbD_extractLsb']
    interval_cases k
    simp
  have mid : (b12 ++ r1.extractLsb' 3 2 ++ r2.extractLsb' 3 2).extractLsb' 2 2 = r1.extractLsb' 3 2 := by
    apply BitVec.eq_of_getLsbD_eq
    intro k hk
    simp only [BitVec.getLsbD_append, BitVec.getLsbD_extractLsb']
    interval_cases k <;> simp
  rw [clCode, top, mid, extract_append_low, creg_split, creg_split]

theorem clCode_clwImm :
    clCode f3 (clwField (clwImm (b12 ++ r1.extractLsb' 3 2 ++ r2.extractLsb' 3 2))) (r1.extractLsb' 0 3)
      (r2.extractLsb' 0 3) = .half (pack16 f3 b12 r1 r2 0b00#2) := by
  rw [clwField_clwImm, clCode_fields]

theorem clCode_cldImm :
    clCode f3 (cldField (cldImm (b12 ++ r1.extractLsb' 3 2 ++ r2.extractLsb' 3 2))) (r1.extractLsb' 0 3)
      (r2.extractLsb' 0 3) = .half (pack16 f3 b12 r1 r2 0b00#2) := by
  rw [cldField_cldImm, clCode_fields]

theorem ciCode_fields : ciCode f3 op (b12 ++ r2) r1 = .half (pack16 f3 b12 r1 r2 op) := by
  rw [ciCode, extract_append_high b12 r2, extract_append_low]

theorem cssCode_fields : cssCode f3 (b12 ++ r1) r2 = .half (pack16 f3 b12 r1 r2 0b10#2) := by
  rw [cssCode, extract_append_high b12 r1, extract_append_low]

theorem cbiCode_fields {f2 : BitVec 2} (h : r1.extractLsb' 3 2 = f2) :
    cbiCode f2 (b12 ++ r2) (r1.extractLsb' 0 3) = .half (pack16 0b100#3 b12 r1 r2 0b01#2) := by
  rw [cbiCode, extract_append_high b12 r2, extract_append_low, ← h, creg_split]

theorem caCode_fields {f2 : BitVec 2} (h1 : r1.extractLsb' 3 2 = 0b11#2) (h2 : r2.extractLsb' 3 2 = f2) :
    caCode b12 f2 (r1.extractLsb' 0 3) (r2.extractLsb' 0 3) = .half (pack16 0b100#3 b12 r1 r2 0b01#2) := by
  rw [caCode, ← h1, ← h2, creg_split, creg_split]

theorem cjCode_cjOff : cjCode f3 (cjOff (b12 ++ r1 ++ r2)) = .half (pack16 f3 b12 r1 r2 0b01#2) := by
  have top : (b12 ++ r1 ++ r2).extractLsb' 10 1 = b12 := by
    apply BitVec.eq_of_getLsbD_eq
    intro k hk
    simp only [BitVec.getLsbD_append, BitVec.getLsbD_extractLsb']
    interval_cases k
    simp
  have mid : (b12 ++ r1 ++ r2).extractLsb' 5 5 = r1 := by
    apply BitVec.eq_of_getLsbD_eq
    intro k hk
    simp only [BitVec.getLsbD_append, BitVec.getLsbD_extractLsb']
    interval_cases k <;> simp
  rw [cjCode, cjField_cjOff, top, mid, extract_append_low]

theorem cbCode_cbOff :
    cbCode f3 (r1.extractLsb' 0 3) (cbOff (b12 ++ r1.extractLsb' 3 2 ++ r2)) = .half (pack16 f3 b12 r1 r2 0b01#2) := by
  have top : (b12 ++ r1.extractLsb' 3 2 ++ r2).extractLsb' 7 1 = b12 := by
    apply BitVec.eq_of_getLsbD_eq
    intro k hk
    simp only [BitVec.getLsbD_append, BitVec.getLsbD_extractLsb']
    interval_cases k
    simp
  have mid : (b12 ++ r1.extractLsb' 3 2 ++ r2).extractLsb' 5 2 = r1.extractLsb' 3 2 := by
    apply BitVec.eq_of_getLsbD_eq
    intro k hk
    simp only [BitVec.getLsbD_append, BitVec.getLsbD_extractLsb']
    interval_cases k <;> simp
  rw [cbCode, cbField_cbOff, top, mid, extract_append_low, creg_split]

theorem ciw_fields :
    (Instr.c_addi4spn (r2.extractLsb' 0 3) (ciwImm (b12 ++ r1 ++ r2.extractLsb' 3 2))).code xl =
      .half (pack16 0b000#3 b12 r1 r2 0b00#2) := by
  have top : (b12 ++ r1 ++ r2.extractLsb' 3 2).extractLsb' 7 1 = b12 := by
    apply BitVec.eq_of_getLsbD_eq
    intro k hk
    simp only [BitVec.getLsbD_append, BitVec.getLsbD_extractLsb']
    interval_cases k
    simp
  have mid : (b12 ++ r1 ++ r2.extractLsb' 3 2).extractLsb' 2 5 = r1 := by
    apply BitVec.eq_of_getLsbD_eq
    intro k hk
    simp only [BitVec.getLsbD_append, BitVec.getLsbD_extractLsb']
    interval_cases k <;> simp
  rw [Instr.code, ciwField_ciwImm]
  beta_reduce
  rw [top, mid, extract_append_low, creg_split]

/-! ### The rows of the halfwords -/

theorem row_decodeC0 (h : decodeC0 xl f3 b12 r1 r2 = .ok i) : Row xl i (.half (pack16 f3 b12 r1 r2 0b00#2)) := by
  unfold decodeC0 at h
  split at h
  · obtain ⟨nonzero, rfl⟩ := rowIf_ok h
    exact ⟨ciw_fields, nonzero, rfl⟩
  · cases h; exact ⟨clCode_cldImm, rfl, rfl⟩
  · cases h; exact ⟨clCode_clwImm, rfl, rfl⟩
  · split at h
    · cases h; exact ⟨clCode_clwImm, rfl, rfl⟩
    · cases h; exact ⟨clCode_cldImm, rfl, rfl⟩
  · cases h; exact ⟨clCode_cldImm, rfl, rfl⟩
  · cases h; exact ⟨clCode_clwImm, rfl, rfl⟩
  · split at h
    · cases h; exact ⟨clCode_clwImm, rfl, rfl⟩
    · cases h; exact ⟨clCode_cldImm, rfl, rfl⟩
  · cases h

theorem shamtOk_c (h : (xl == .rv64 || b12 == 0#1) = true) : shamtOk xl (b12 ++ r2) = true := by
  cases xl with
  | rv64 => rfl
  | rv32 =>
    obtain rfl : b12 = 0#1 := by simpa using h
    have top : (0#1 ++ r2)[5] = false := by
      rw [BitVec.getElem_append]
      simp
    exact (congrArg Bool.not top).trans rfl

theorem row_decodeC1Arith (h : decodeC1Arith xl b12 r1 r2 = .ok i) :
    Row xl i (.half (pack16 0b100#3 b12 r1 r2 0b01#2)) := by
  unfold decodeC1Arith at h
  split at h
  · next code =>
    obtain ⟨ok, rfl⟩ := rowIf_ok h
    exact ⟨cbiCode_fields code, shamtOk_c ok, rfl⟩
  · next code =>
    obtain ⟨ok, rfl⟩ := rowIf_ok h
    exact ⟨cbiCode_fields code, shamtOk_c ok, rfl⟩
  · next code =>
    cases h
    exact ⟨cbiCode_fields code, rfl, rfl⟩
  · have top : r1.extractLsb' 3 2 = 0b11#2 := by
      generalize r1.extractLsb' 3 2 = v at *
      revert v; decide
    split at h
    · next code => cases h; exact ⟨caCode_fields top code, rfl, rfl⟩
    · next code => cases h; exact ⟨caCode_fields top code, rfl, rfl⟩
    · next code => cases h; exact ⟨caCode_fields top code, rfl, rfl⟩
    · next code0 code1 code2 =>
      cases h
      have code : r2.extractLsb' 3 2 = 0b11#2 := by
        generalize r2.extractLsb' 3 2 = v at *
        revert v; decide
      exact ⟨caCode_fields top code, rfl, rfl⟩
    · next c _ _ one code =>
      obtain rfl : c = 1#1 := by revert c; decide
      cases h; exact ⟨caCode_fields top code, rfl, rfl⟩
    · next c _ _ one code =>
      obtain rfl : c = 1#1 := by revert c; decide
      cases h; exact ⟨caCode_fields top code, rfl, rfl⟩
    · cases h

theorem row_decodeC1 (h : decodeC1 xl f3 b12 r1 r2 = .ok i) : Row xl i (.half (pack16 f3 b12 r1 r2 0b01#2)) := by
  unfold decodeC1 at h
  split at h
  · cases h; exact ⟨ciCode_fields, rfl, rfl⟩
  · split at h
    · cases h; exact ⟨cjCode_cjOff, rfl, rfl⟩
    · obtain ⟨nonzero, rfl⟩ := rowIf_ok h
      exact ⟨ciCode_fields, nonzero, rfl⟩
  · cases h; exact ⟨ciCode_fields, rfl, rfl⟩
  · split at h
    · next two =>
      subst two
      obtain ⟨nonzero, rfl⟩ := rowIf_ok h
      exact ⟨(congrArg (ciCode _ _ · _) (c16Field_c16Imm _)).trans ciCode_fields, nonzero, rfl⟩
    · next other =>
      obtain ⟨nonzero, rfl⟩ := rowIf_ok h
      exact ⟨ciCode_fields, by rw [Instr.operandsOk, nonzero, bne_iff_ne.2 other]; rfl, rfl⟩
  · exact row_decodeC1Arith h
  · cases h; exact ⟨cjCode_cjOff, rfl, rfl⟩
  · cases h; exact ⟨cbCode_cbOff, rfl, rfl⟩
  · obtain rfl : f3 = 0b111#3 := by revert f3; decide
    cases h; exact ⟨cbCode_cbOff, rfl, rfl⟩

theorem row_decodeC2 (h : decodeC2 xl f3 b12 r1 r2 = .ok i) : Row xl i (.half (pack16 f3 b12 r1 r2 0b10#2)) := by
  unfold decodeC2 at h
  split at h
  · obtain ⟨ok, rfl⟩ := rowIf_ok h
    exact ⟨ciCode_fields, shamtOk_c ok, rfl⟩
  · cases h; exact ⟨(congrArg (ciCode _ _ · _) (cdspField_cdspImm _)).trans ciCode_fields, rfl, rfl⟩
  · obtain ⟨nonzero, rfl⟩ := rowIf_ok h
    exact ⟨(congrArg (ciCode _ _ · _) (cwspField_cwspImm _)).trans ciCode_fields, nonzero, rfl⟩
  · split at h
    · cases h; exact ⟨(congrArg (ciCode _ _ · _) (cwspField_cwspImm _)).trans ciCode_fields, rfl, rfl⟩
    · obtain ⟨nonzero, rfl⟩ := rowIf_ok h
      exact ⟨(congrArg (ciCode _ _ · _) (cdspField_cdspImm _)).trans ciCode_fields, nonzero, rfl⟩
  · split at h
    · next zero =>
      subst zero
      split at h
      · next none =>
        subst none
        obtain ⟨nonzero, rfl⟩ := rowIf_ok h
        exact ⟨rfl, nonzero, rfl⟩
      · next some =>
        cases h
        exact ⟨rfl, bne_iff_ne.2 some, rfl⟩
    · next one =>
      obtain rfl : b12 = 1#1 := by revert b12; decide
      split at h
      · next none =>
        subst none
        split at h
        · next x0 => subst x0; cases h; exact ⟨rfl, rfl, rfl⟩
        · next x0 => cases h; exact ⟨rfl, bne_iff_ne.2 x0, rfl⟩
      · next some =>
        obtain ⟨nonzero, rfl⟩ := rowIf_ok h
        exact ⟨rfl, by rw [Instr.operandsOk, nonzero, bne_iff_ne.2 some]; rfl, rfl⟩
  · cases h; exact ⟨(congrArg (cssCode _ · _) (cdspField_cdspImm _)).trans cssCode_fields, rfl, rfl⟩
  · cases h; exact ⟨(congrArg (cssCode _ · _) (cwspField_cwspImm _)).trans cssCode_fields, rfl, rfl⟩
  · obtain rfl : f3 = 0b111#3 := by revert f3; decide
    split at h
    · cases h; exact ⟨(congrArg (cssCode _ · _) (cwspField_cwspImm _)).trans cssCode_fields, rfl, rfl⟩
    · cases h; exact ⟨(congrArg (cssCode _ · _) (cdspField_cdspImm _)).trans cssCode_fields, rfl, rfl⟩

theorem row_decodeFields16 (h : decodeFields16 xl f3 b12 r1 r2 op = .ok i) :
    Row xl i (.half (pack16 f3 b12 r1 r2 op)) := by
  unfold decodeFields16 at h
  split at h
  · exact row_decodeC0 h
  · exact row_decodeC1 h
  · exact row_decodeC2 h
  · cases h

theorem row_decodeRow {code : Code} (h : decodeRow xl code = .ok i) : Row xl i code := by
  cases code with
  | half c => exact (row_decodeFields16 h).congr (congrArg Code.half (pack16_fields c))
  | word w => exact (row_decodeFields32 h).congr (congrArg Code.word (pack32_fields w))

end

/-- Settles O3, by one lemma per table of the decoder. -/
theorem encode_decode : Obligations.encode_decode := by
  intro cfg code i h
  obtain ⟨row, available⟩ := decodeRow_of_decodeCode h
  obtain ⟨encodes, operands, machine⟩ := row_decodeRow row
  exact ⟨by rw [Instr.wf, available, operands]; rfl, machine, encodes⟩

end Sys2Proof.Machine
end

section
/-! PROOFS. Decoding what was encoded: each format of the encoder against the decoder's table (30_encoding.md). -/

namespace Sys2Proof.Machine

open Sys2Proof

/-! ### The formats of the words -/

section
variable {xl : Xlen} {f7 : BitVec 7} {rs2 rs1 rd : BitVec 5} {f3 : BitVec 3} {op : BitVec 7}

theorem decodeRow_word :
    decodeRow xl (.word (pack32 f7 rs2 rs1 f3 rd op)) = decodeFields32 xl f7 rs2 rs1 f3 rd op := by
  simp only [decodeRow, fieldF7_pack32, fieldRs2_pack32, fieldRs1_pack32, fieldF3_pack32, fieldRd_pack32, fieldOp_pack32]

theorem decodeRow_iCode {row : BitVec 12 → Except DecodeError Instr}
    (h : ∀ hi lo, decodeFields32 xl hi lo rs1 f3 rd op = row (joinI hi lo)) (imm : BitVec 12) :
    decodeRow xl (iCode op f3 rd rs1 imm) = row imm := by
  rw [iCode, decodeRow_word, h, joinI_split]

theorem decodeRow_sCode {row : BitVec 12 → Except DecodeError Instr}
    (h : ∀ hi lo, decodeFields32 xl hi rs2 rs1 f3 lo op = row (joinI hi lo)) (off : BitVec 12) :
    decodeRow xl (sCode op f3 rs1 rs2 off) = row off := by
  rw [sCode, decodeRow_word, h, joinI_split]

theorem decodeRow_bCode {row : BitVec 12 → Except DecodeError Instr}
    (h : ∀ off, decodeBranch f3 rs1 rs2 off = row off) (off : BitVec 12) :
    decodeRow xl (bCode f3 rs1 rs2 off) = row off := by
  rw [bCode, decodeRow_word, decodeFields32, h, joinB_split]

theorem joinU_split (u : BitVec 20) :
    joinU (u.extractLsb' 13 7) (u.extractLsb' 8 5) (u.extractLsb' 3 5) (u.extractLsb' 0 3) = u := by
  apply BitVec.eq_of_getLsbD_eq
  intro k hk
  simp only [joinU, BitVec.getLsbD_append, BitVec.getLsbD_extractLsb']
  interval_cases k <;> simp

theorem decodeRow_uCode {row : BitVec 20 → Except DecodeError Instr}
    (h : ∀ f7 rs2 rs1 f3, decodeFields32 xl f7 rs2 rs1 f3 rd op = row (joinU f7 rs2 rs1 f3)) (imm : BitVec 20) :
    decodeRow xl (uCode op rd imm) = row imm := by
  rw [uCode, decodeRow_word, h, joinU_split]

theorem rowIf_true {ok : Bool} (h : ok = true) (e : DecodeError) (i : Instr) : rowIf ok e i = .ok i := if_pos h

theorem decodeRow_shCode {k : BitVec 6 → Instr} {code : BitVec 6} {shamt : BitVec 6}
    (h : ∀ f7 lo, f7.extractLsb' 1 6 = code → decodeOpImm xl f7 lo rs1 f3 rd =
      rowIf (xl == .rv64 || !f7[0]) .shamt (k (f7.extractLsb' 0 1 ++ lo))) (ok : shamtOk xl shamt = true) :
    decodeRow xl (shCode f3 code rd rs1 shamt) = .ok (k shamt) := by
  rw [shCode, decodeRow_word, decodeFields32, h _ _ (extract_append_high code (shamt.extractLsb' 5 1)),
    extract_append_low, append_split (n := 1) (m := 5) shamt]
  refine rowIf_true ?_ _ _
  cases xl with
  | rv64 => rfl
  | rv32 =>
    have top : (code ++ shamt.extractLsb' 5 1)[0] = shamt[5] := by
      rw [BitVec.getElem_append]
      simp
    rw [top]
    exact ok

theorem decodeRow_amoCode {row : Reg → BitVec 1 → BitVec 1 → Except DecodeError Instr} {code : BitVec 5}
    (h : ∀ f7 : BitVec 7, ∀ rs2, f7.extractLsb' 2 5 = code →
      decodeAmo f7 rs2 rs1 f3 rd = row rs2 (f7.extractLsb' 1 1) (f7.extractLsb' 0 1)) (aq rl : BitVec 1) :
    decodeRow xl (amoCode f3 code rd rs1 rs2 aq rl) = row rs2 aq rl := by
  have high : (code ++ aq ++ rl).extractLsb' 2 5 = code := by
    apply BitVec.eq_of_getLsbD_eq
    intro k hk
    simp only [BitVec.getLsbD_append, BitVec.getLsbD_extractLsb']
    interval_cases k <;> simp
  have mid : (code ++ aq ++ rl).extractLsb' 1 1 = aq := by
    apply BitVec.eq_of_getLsbD_eq
    intro k hk
    simp only [BitVec.getLsbD_append, BitVec.getLsbD_extractLsb']
    interval_cases k
    simp
  rw [amoCode, decodeRow_word, decodeFields32, h _ _ high, mid, extract_append_low]

theorem rowRm_bits (rm : Rounding) (k : Rounding → Instr) : rowRm rm.bits k = .ok (k rm) := by
  rw [rowRm, roundingOf_bits]

theorem decodeRow_r4Code {k : Reg → Rounding → Instr} {fmt : BitVec 2}
    (h : ∀ f7 : BitVec 7, ∀ f3, f7.extractLsb' 0 2 = fmt →
      decodeFields32 xl f7 rs2 rs1 f3 rd op = rowRm f3 (k (f7.extractLsb' 2 5))) (rs3 : Reg) (rm : Rounding) :
    decodeRow xl (r4Code op fmt rd rs1 rs2 rs3 rm) = .ok (k rs3 rm) := by
  rw [r4Code, decodeRow_word, h _ _ (extract_append_low rs3 fmt), extract_append_high, rowRm_bits]

end

/-! ### The formats of the halfwords -/

section
variable {xl : Xlen} {f3 : BitVec 3} {b12 : BitVec 1} {r1 r2 rd : BitVec 5} {op : BitVec 2}

theorem decodeRow_half : decodeRow xl (.half (pack16 f3 b12 r1 r2 op)) = decodeFields16 xl f3 b12 r1 r2 op := by
  simp only [decodeRow, halfF3_pack16, halfB12_pack16, halfR1_pack16, halfR2_pack16, halfOp_pack16]

theorem decodeRow_clCode {row : CReg → CReg → BitVec 5 → Except DecodeError Instr}
    (h : ∀ b12 r1 r2, decodeC0 xl f3 b12 r1 r2 =
      row (r1.extractLsb' 0 3) (r2.extractLsb' 0 3) (b12 ++ r1.extractLsb' 3 2 ++ r2.extractLsb' 3 2)) (v : BitVec 5)
    (rs1 r : CReg) : decodeRow xl (clCode f3 v rs1 r) = row rs1 r v := by
  have joined : v.extractLsb' 4 1 ++ v.extractLsb' 2 2 ++ v.extractLsb' 0 2 = v := by revert v; decide
  rw [clCode, decodeRow_half, decodeFields16, h, extract_append_low, extract_append_low, extract_append_high,
    extract_append_high, joined]

theorem decodeRow_ciCode {row : BitVec 6 → Except DecodeError Instr}
    (h : ∀ b12 r2, decodeFields16 xl f3 b12 rd r2 op = row (b12 ++ r2)) (v : BitVec 6) :
    decodeRow xl (ciCode f3 op v rd) = row v := by
  rw [ciCode, decodeRow_half, h, append_split (n := 1) (m := 5) v]

theorem decodeRow_clwField {row : CReg → CReg → BitVec 5 → Except DecodeError Instr}
    (h : ∀ b12 r1 r2, decodeC0 xl f3 b12 r1 r2 =
      row (r1.extractLsb' 0 3) (r2.extractLsb' 0 3) (clwImm (b12 ++ r1.extractLsb' 3 2 ++ r2.extractLsb' 3 2)))
    (u : BitVec 5) (rs1 r : CReg) : decodeRow xl (clCode f3 (clwField u) rs1 r) = row rs1 r u := by
  rw [decodeRow_clCode (row := fun rs1 r v => row rs1 r (clwImm v)) h, clwImm_clwField]

theorem decodeRow_cldField {row : CReg → CReg → BitVec 5 → Except DecodeError Instr}
    (h : ∀ b12 r1 r2, decodeC0 xl f3 b12 r1 r2 =
      row (r1.extractLsb' 0 3) (r2.extractLsb' 0 3) (cldImm (b12 ++ r1.extractLsb' 3 2 ++ r2.extractLsb' 3 2)))
    (u : BitVec 5) (rs1 r : CReg) : decodeRow xl (clCode f3 (cldField u) rs1 r) = row rs1 r u := by
  rw [decodeRow_clCode (row := fun rs1 r v => row rs1 r (cldImm v)) h, cldImm_cldField]

theorem decodeRow_cssCode {row : BitVec 6 → Except DecodeError Instr}
    (h : ∀ b12 r1, decodeC2 xl f3 b12 r1 r2 = row (b12 ++ r1)) (v : BitVec 6) :
    decodeRow xl (cssCode f3 v r2) = row v := by
  rw [cssCode, decodeRow_half, decodeFields16, h, append_split (n := 1) (m := 5) v]

theorem decodeRow_cwspField {row : BitVec 6 → Except DecodeError Instr}
    (h : ∀ b12 r2, decodeC2 xl f3 b12 rd r2 = row (cwspImm (b12 ++ r2))) (u : BitVec 6) :
    decodeRow xl (ciCode f3 0b10#2 (cwspField u) rd) = row u := by
  exact (decodeRow_ciCode (op := 0b10#2) (row := fun v => row (cwspImm v)) h _).trans (congrArg row (cwspImm_cwspField u))

theorem decodeRow_cdspField {row : BitVec 6 → Except DecodeError Instr}
    (h : ∀ b12 r2, decodeC2 xl f3 b12 rd r2 = row (cdspImm (b12 ++ r2))) (u : BitVec 6) :
    decodeRow xl (ciCode f3 0b10#2 (cdspField u) rd) = row u := by
  exact (decodeRow_ciCode (op := 0b10#2) (row := fun v => row (cdspImm v)) h _).trans (congrArg row (cdspImm_cdspField u))

theorem decodeRow_css_cwspField {row : BitVec 6 → Except DecodeError Instr}
    (h : ∀ b12 r1, decodeC2 xl f3 b12 r1 r2 = row (cwspImm (b12 ++ r1))) (u : BitVec 6) :
    decodeRow xl (cssCode f3 (cwspField u) r2) = row u := by
  rw [decodeRow_cssCode (row := fun v => row (cwspImm v)) h, cwspImm_cwspField]

theorem decodeRow_css_cdspField {row : BitVec 6 → Except DecodeError Instr}
    (h : ∀ b12 r1, decodeC2 xl f3 b12 r1 r2 = row (cdspImm (b12 ++ r1))) (u : BitVec 6) :
    decodeRow xl (cssCode f3 (cdspField u) r2) = row u := by
  rw [decodeRow_cssCode (row := fun v => row (cdspImm v)) h, cdspImm_cdspField]

theorem decodeRow_cjCode {row : BitVec 11 → Except DecodeError Instr}
    (h : ∀ b12 r1 r2, decodeC1 xl f3 b12 r1 r2 = row (cjOff (b12 ++ r1 ++ r2))) (off : BitVec 11) :
    decodeRow xl (cjCode f3 off) = row off := by
  have joined (v : BitVec 11) : v.extractLsb' 10 1 ++ v.extractLsb' 5 5 ++ v.extractLsb' 0 5 = v := by
    apply BitVec.eq_of_getLsbD_eq
    intro k hk
    simp only [BitVec.getLsbD_append, BitVec.getLsbD_extractLsb']
    interval_cases k <;> simp
  rw [cjCode, decodeRow_half, decodeFields16, h, joined, cjOff_cjField]

theorem decodeRow_cbCode {row : CReg → BitVec 8 → Except DecodeError Instr}
    (h : ∀ b12 r1 r2, decodeC1 xl f3 b12 r1 r2 =
      row (r1.extractLsb' 0 3) (cbOff (b12 ++ r1.extractLsb' 3 2 ++ r2))) (r : CReg) (off : BitVec 8) :
    decodeRow xl (cbCode f3 r off) = row r off := by
  have joined (v : BitVec 8) : v.extractLsb' 7 1 ++ v.extractLsb' 5 2 ++ v.extractLsb' 0 5 = v := by revert v; decide
  rw [cbCode, decodeRow_half, decodeFields16, h, extract_append_low, extract_append_high, joined, cbOff_cbField]

/-- A compressed shift, whose amount is the field itself. -/
theorem rowIf_shamt {v : BitVec 6} (ok : shamtOk xl v = true) (k : BitVec 6 → Instr) :
    rowIf (xl == .rv64 || v.extractLsb' 5 1 == 0#1) .shamt (k (v.extractLsb' 5 1 ++ v.extractLsb' 0 5)) = .ok (k v) := by
  rw [append_split (n := 1) (m := 5) v]
  refine rowIf_true ?_ _ _
  cases xl with
  | rv64 => rfl
  | rv32 =>
    revert v
    decide

theorem decodeRow_cbiCode {k : CReg → BitVec 6 → Instr} {f2 : BitVec 2} {v : BitVec 6}
    (h : ∀ b12 r1 r2, r1.extractLsb' 3 2 = f2 → decodeC1Arith xl b12 r1 r2 =
      rowIf (xl == .rv64 || b12 == 0#1) .shamt (k (r1.extractLsb' 0 3) (b12 ++ r2))) (ok : shamtOk xl v = true)
    (r : CReg) : decodeRow xl (cbiCode f2 v r) = .ok (k r v) := by
  rw [cbiCode, decodeRow_half, decodeFields16, decodeC1, h _ _ _ (extract_append_high f2 r), extract_append_low]
  exact rowIf_shamt ok (k r)

theorem decodeRow_caCode {k : CReg → CReg → Instr} {f2 : BitVec 2}
    (h : ∀ r1 r2, r1.extractLsb' 3 2 = 0b11#2 → r2.extractLsb' 3 2 = f2 →
      decodeC1Arith xl b12 r1 r2 = .ok (k (r1.extractLsb' 0 3) (r2.extractLsb' 0 3))) (r r' : CReg) :
    decodeRow xl (caCode b12 f2 r r') = .ok (k r r') := by
  rw [caCode, decodeRow_half, decodeFields16, decodeC1, h _ _ (extract_append_high _ r) (extract_append_high f2 r'),
    extract_append_low, extract_append_low]

end

end Sys2Proof.Machine
end

section
/-! PROOFS. Decoding gives back each instruction from its word, and from its bytes (30_encoding.md, section 6). -/

namespace Sys2Proof.Machine

open Sys2Proof

theorem xlen_of_only32 {cfg : Config} {i : Instr} (h : i.available cfg = true) (tag : i.tag.2 = .only32) :
    cfg.xlen = .rv32 := by
  obtain ⟨-, width⟩ := Bool.and_eq_true_iff.1 h
  rw [tag] at width
  exact eq_of_beq width

theorem xlen_of_only64 {cfg : Config} {i : Instr} (h : i.available cfg = true) (tag : i.tag.2 = .only64) :
    cfg.xlen = .rv64 := by
  obtain ⟨-, width⟩ := Bool.and_eq_true_iff.1 h
  rw [tag] at width
  exact eq_of_beq width

theorem decodeRow_code {cfg : Config} {i : Instr} (available : i.available cfg = true)
    (operands : i.operandsOk cfg.xlen = true) (machine : isMachine cfg.xlen i) :
    decodeRow cfg.xlen (i.code cfg.xlen) = .ok i := by
  cases i with
  | la rd got hi lo => exact absurd machine (not_isMachine_la _ rd got hi lo)
  | li rd imm => exact absurd machine (not_isMachine_li _ rd imm)
  | add | sub | sll | slt | sltu | xor | srl | sra | or | and | addw | subw | sllw | srlw | sraw | sfence_vma | mul
  | mulh | mulhsu | mulhu | div | divu | rem | remu | mulw | divw | divuw | remw | remuw | fsgnj_s | fsgnjn_s
  | fsgnjx_s | fmin_s | fmax_s | feq_s | flt_s | fle_s | fclass_s | fmv_x_w | fmv_w_x | fsgnj_d | fsgnjn_d | fsgnjx_d
  | fmin_d | fmax_d | feq_d | flt_d | fle_d | fclass_d | fmv_x_d | fmv_d_x | fence_i | ecall | ebreak | mret | sret
  | wfi => exact decodeRow_word
  | fadd_s | fsub_s | fmul_s | fdiv_s | fsqrt_s | fcvt_w_s | fcvt_s_w | fcvt_wu_s | fcvt_s_wu | fcvt_l_s | fcvt_s_l
  | fcvt_lu_s | fcvt_s_lu | fadd_d | fsub_d | fmul_d | fdiv_d | fsqrt_d | fcvt_w_d | fcvt_d_w | fcvt_wu_d | fcvt_d_wu
  | fcvt_l_d | fcvt_d_l | fcvt_lu_d | fcvt_d_lu | fcvt_s_d | fcvt_d_s => exact decodeRow_word.trans (rowRm_bits _ _)
  | fmadd_s | fmsub_s | fnmsub_s | fnmadd_s | fmadd_d | fmsub_d | fnmsub_d | fnmadd_d =>
    apply decodeRow_r4Code
    intro _ _ fmt
    simp only [decodeFields32, decodeFma, fmt]
  | addi | slti | sltiu | xori | ori | andi | addiw | jalr | lb | lh | lw | ld | lbu | lhu | lwu | csrrw | csrrs
  | csrrc | csrrwi | csrrsi | csrrci | flw | fld =>
    apply decodeRow_iCode
    intros
    rfl
  | sb | sh | sw | sd | fsw | fsd =>
    apply decodeRow_sCode
    intros
    rfl
  | beq | bne | blt | bge | bltu | bgeu =>
    apply decodeRow_bCode
    intros
    rfl
  | lui | auipc =>
    apply decodeRow_uCode
    intros
    rfl
  | jal rd off =>
    exact (decodeRow_uCode (row := fun u => .ok (.jal rd (jumpOff u))) (fun _ _ _ _ => rfl) _).trans
      (congrArg (fun v => Except.ok (Instr.jal rd v)) (jumpOff_jumpField off))
  | slli =>
    apply decodeRow_shCode (ok := operands)
    intro _ _ code
    simp only [decodeOpImm, code]
  | srli | srai =>
    apply decodeRow_shCode (ok := operands)
    intro _ _ code
    simp only [decodeOpImm, code]
    rfl
  | slliw | srliw | sraiw => exact decodeRow_word
  | fence pred succ =>
    refine decodeRow_word.trans ?_
    rw [decodeFields32, decodeFence, extract_append_high, extract_append_low, extract_append_high, extract_append_low,
      if_pos ⟨rfl, rfl, rfl⟩, append_split (n := 3) (m := 1) pred]
  | lr_w rd rs1 aq rl =>
    exact decodeRow_amoCode (row := fun rs2 aq rl => rowIf (rs2 == 0#5) .noRow (.lr_w rd rs1 aq rl))
      (fun _ _ code => by simp only [decodeAmo, code]) aq rl
  | lr_d rd rs1 aq rl =>
    exact decodeRow_amoCode (row := fun rs2 aq rl => rowIf (rs2 == 0#5) .noRow (.lr_d rd rs1 aq rl))
      (fun _ _ code => by simp only [decodeAmo, code]) aq rl
  | sc_w | sc_d | amoswap_w | amoswap_d | amoadd_w | amoadd_d | amoxor_w | amoxor_d | amoand_w | amoand_d | amoor_w
  | amoor_d | amomin_w | amomin_d | amomax_w | amomax_d | amominu_w | amominu_d | amomaxu_w | amomaxu_d =>
    apply decodeRow_amoCode
    intro _ _ code
    simp only [decodeAmo, code]
  | beqz | bgez | bgt | bgtu | bgtz | ble | bleu | blez | bltz | bnez | call | csrc | csrci | csrr | csrs | csrsi
  | csrw | csrwi | fabs_d | fabs_s | fmv_d | fmv_s | fneg_d | fneg_s | frcsr | frflags | frrm | fscsr | fsflags | fsrm
  | j | jr | lla | mv | neg | negw | nop | not | rdcycle | rdcycleh | rdinstret | rdinstreth | rdtime | rdtimeh | ret
  | seqz | sext_w | sgtz | sltz | snez | tail => exact nomatch machine
  | c_addi4spn rd uimm =>
    have joined (v : BitVec 8) : v.extractLsb' 7 1 ++ v.extractLsb' 2 5 ++ v.extractLsb' 0 2 = v := by revert v; decide
    refine decodeRow_half.trans ?_
    rw [decodeFields16, decodeC0]
    rw [extract_append_high, extract_append_low, joined, ciwImm_ciwField]
    exact rowIf_true operands _ _
  | c_lw | c_sw =>
    apply decodeRow_clwField
    intros
    rfl
  | c_fld | c_fsd =>
    apply decodeRow_cldField
    intros
    rfl
  | c_flw | c_fsw =>
    rw [xlen_of_only32 available rfl]
    apply decodeRow_clwField
    intros
    rfl
  | c_ld | c_sd =>
    rw [xlen_of_only64 available rfl]
    apply decodeRow_cldField
    intros
    rfl
  | c_addi | c_li =>
    apply decodeRow_ciCode
    intros
    rfl
  | c_addiw rd imm =>
    rw [xlen_of_only64 available rfl]
    exact (decodeRow_ciCode (row := fun v => rowIf (rd != 0#5) .invalidCompressed (.c_addiw rd v)) (fun _ _ => rfl)
      imm).trans (rowIf_true operands _ _)
  | c_addi16sp imm =>
    refine (decodeRow_ciCode
      (row := fun v => rowIf (c16Imm v != 0#6) .invalidCompressed (.c_addi16sp (c16Imm v))) (fun _ _ => rfl) _).trans ?_
    rw [c16Imm_c16Field]
    exact rowIf_true operands _ _
  | c_lui rd imm =>
    obtain ⟨other, nonzero⟩ := Bool.and_eq_true_iff.1 operands
    exact (decodeRow_ciCode (f3 := 0b011#3) (op := 0b01#2)
      (row := fun v => rowIf (v != 0#6) .invalidCompressed (.c_lui rd v))
      (fun _ _ => if_neg (bne_iff_ne.1 other)) imm).trans (rowIf_true nonzero _ _)
  | c_slli rd uimm => exact decodeRow_half.trans (rowIf_shamt operands (.c_slli rd))
  | c_fldsp =>
    apply decodeRow_cdspField
    intros
    rfl
  | c_lwsp rd uimm =>
    exact (decodeRow_cwspField (row := fun v => rowIf (rd != 0#5) .invalidCompressed (.c_lwsp rd v)) (fun _ _ => rfl)
      uimm).trans (rowIf_true operands _ _)
  | c_flwsp =>
    rw [xlen_of_only32 available rfl]
    apply decodeRow_cwspField
    intros
    rfl
  | c_ldsp rd uimm =>
    rw [xlen_of_only64 available rfl]
    exact (decodeRow_cdspField (row := fun v => rowIf (rd != 0#5) .invalidCompressed (.c_ldsp rd v)) (fun _ _ => rfl)
      uimm).trans (rowIf_true operands _ _)
  | c_fsdsp =>
    apply decodeRow_css_cdspField
    intros
    rfl
  | c_swsp =>
    apply decodeRow_css_cwspField
    intros
    rfl
  | c_fswsp =>
    rw [xlen_of_only32 available rfl]
    apply decodeRow_css_cwspField
    intros
    rfl
  | c_sdsp =>
    rw [xlen_of_only64 available rfl]
    apply decodeRow_css_cdspField
    intros
    rfl
  | c_jal =>
    rw [xlen_of_only32 available rfl]
    apply decodeRow_cjCode
    intros
    rfl
  | c_j =>
    apply decodeRow_cjCode
    intros
    rfl
  | c_beqz | c_bnez =>
    apply decodeRow_cbCode
    intros
    rfl
  | c_srli | c_srai =>
    apply decodeRow_cbiCode (ok := operands)
    intro _ _ _ code
    simp only [decodeC1Arith, code]
  | c_andi rd imm =>
    refine decodeRow_half.trans ?_
    rw [decodeFields16, decodeC1]
    unfold decodeC1Arith
    rw [extract_append_high, extract_append_low, append_split (n := 1) (m := 5) imm]
    rfl
  | c_sub | c_xor | c_or | c_and | c_subw | c_addw =>
    apply decodeRow_caCode
    intro _ _ top code
    simp only [decodeC1Arith, top, code]
    rfl
  | c_jr => exact decodeRow_half.trans (rowIf_true operands _ _)
  | c_mv => exact decodeRow_half.trans (if_neg (bne_iff_ne.1 operands))
  | c_jalr => exact decodeRow_half.trans (if_neg (bne_iff_ne.1 operands))
  | c_add =>
    obtain ⟨rd, rs2⟩ := Bool.and_eq_true_iff.1 operands
    exact decodeRow_half.trans ((if_neg (bne_iff_ne.1 rs2)).trans (rowIf_true rd _ _))
  | c_ebreak => exact decodeRow_half

theorem append_bytes (w : BitVec 32) :
    w.extractLsb' 24 8 ++ w.extractLsb' 16 8 ++ w.extractLsb' 8 8 ++ w.extractLsb' 0 8 = w := by
  apply BitVec.eq_of_getLsbD_eq
  intro k hk
  simp only [BitVec.getLsbD_append, BitVec.getLsbD_extractLsb']
  interval_cases k <;> simp

theorem low_of_byte {n : Nat} (w : BitVec n) : (w.extractLsb' 0 8).extractLsb' 0 2 = w.extractLsb' 0 2 := by
  ext k hk
  simp

/-- The bytes of a code word that decodes are the head of a list of bytes. -/
theorem decode_bytes {cfg : Config} {code : Code} {i : Instr} (h : decodeCode cfg code = .ok i) (rest : List Byte) :
    decode cfg (code.bytes ++ rest) = .ok (i, rest) := by
  cases code with
  | half c =>
    refine (if_neg ?_).trans ?_
    · rw [low_of_byte]
      exact low_of_decode_half h
    · rw [append_extract_bytes, h]
      rfl
  | word w =>
    refine (if_pos ?_).trans ?_
    · rw [low_of_byte]
      exact low_of_decode_word h
    · rw [append_bytes, h]
      rfl

theorem decodeCode_code {cfg : Config} {i : Instr} (wf : i.wf cfg = true) (machine : isMachine cfg.xlen i) :
    decodeCode cfg (i.code cfg.xlen) = .ok i := by
  obtain ⟨available, operands⟩ := Bool.and_eq_true_iff.1 wf
  rw [decodeCode, decodeRow_code available operands machine]
  exact rowIf_true available _ _

/-- Settles O2: the table gives back each instruction from its word, and its bytes are those of its one word. -/
theorem decode_encode : Obligations.decode_encode := by
  intro cfg i rest wf machine
  have bytes : encode cfg.xlen i = (i.code cfg.xlen).bytes := by
    rw [encode, show i.expand cfg.xlen = [i] from machine, List.flatMap_singleton]
  rw [bytes]
  exact decode_bytes (decodeCode_code wf machine) rest

end Sys2Proof.Machine
end

section
/-! PROOFS. Every step keeps the pc and the exception pcs aligned and the modes implemented (10_state.md). -/

namespace Sys2Proof.Machine

open Sys2Proof

/-! ### Aligned addresses -/

theorem ialignBytes_eq (cfg : Config) : cfg.c = true ∧ cfg.ialignBytes = 2 ∨ cfg.c = false ∧ cfg.ialignBytes = 4 := by
  unfold Config.ialignBytes Config.ialign16
  cases cfg.c <;> simp

theorem State.aligned_iff (s : State) (v : Word) :
    v.toNat = s.evenPc v ↔ v.toNat < s.modulus ∧ v.toNat % s.cfg.ialignBytes = 0 := by
  constructor
  · intro h
    refine ⟨h ▸ s.evenPc_lt v, ?_⟩
    rw [h]
    exact Nat.mul_mod_left _ _
  · rintro ⟨small, multiple⟩
    have wrap : s.wrap v.toNat = v.toNat := (s.wrap_natCast _).trans (Nat.mod_eq_of_lt small)
    rw [State.evenPc, wrap]
    exact (Nat.div_mul_cancel (Nat.dvd_of_mod_eq_zero multiple)).symm

/-- A multiple stays one modulo `2^XLEN`. -/
theorem State.truncX_aligned {s : State} {w : Word} (h : w.toNat % s.cfg.ialignBytes = 0) :
    (truncX s.cfg.xlen w).toNat = s.evenPc (truncX s.cfg.xlen w) := by
  refine (s.aligned_iff _).2 ⟨?_, ?_⟩ <;> rw [truncX_toNat]
  · exact Nat.mod_lt _ s.modulus_pos
  · rcases ialignBytes_eq s.cfg with ⟨-, k⟩ | ⟨-, k⟩ <;> rw [k] at h ⊢ <;>
      cases s.cfg.xlen <;> simp only [Xlen.bits] <;> omega

theorem align_add {cfg : Config} {pc len : Word} (aligned : pc.toNat % cfg.ialignBytes = 0)
    (length : len = 4#64 ∨ cfg.c = true ∧ len = 2#64) : (pc + len).toNat % cfg.ialignBytes = 0 := by
  rw [BitVec.toNat_add]
  rcases length with rfl | ⟨c, rfl⟩ <;> rw [BitVec.toNat_ofNat] <;>
    rcases ialignBytes_eq cfg with ⟨-, k⟩ | ⟨noC, k⟩ <;> rw [k] at aligned ⊢
  · omega
  · omega
  · omega
  · simp [c] at noC

theorem getElem_zero_eq (w : Word) : w[0] = decide (w.toNat % 2 = 1) := by
  rw [← BitVec.getLsbD_eq_getElem, BitVec.getLsbD, Nat.testBit_eq_decide_div_mod_eq, pow_zero, Nat.div_one]

/-- A target with bit 0 clear that does not raise. -/
theorem State.target_aligned {s : State} {target : Word} (even : target[0] = false)
    (ok : s.cfg.c = true ∨ (truncX s.cfg.xlen target)[1] = false) : target.toNat % s.cfg.ialignBytes = 0 := by
  have bit0 : target.toNat % 2 = 0 := by simpa [getElem_zero_eq] using even
  rcases ialignBytes_eq s.cfg with ⟨-, two⟩ | ⟨noC, four⟩
  · rw [two]
    exact bit0
  · have bit1 := ok.resolve_left (by simp [noC])
    rw [getElem_one_eq, truncX_toNat, decide_eq_false_iff_not] at bit1
    rw [four]
    cases h : s.cfg.xlen <;> simp only [h, Xlen.bits] at bit1 <;> omega

theorem State.trapBase_aligned (s : State) : s.trapBase.toNat % s.cfg.ialignBytes = 0 := by
  rw [s.trapBase_toNat, State.handler]
  rcases ialignBytes_eq s.cfg with ⟨-, k⟩ | ⟨-, k⟩ <;> rw [k] <;> omega

/-! ### What keeps the invariant -/

/-- Registers, memory and the pc may change, the pc to an aligned address. -/
theorem State.ControlInv.goes {s u : State} (inv : s.ControlInv) (works : s.Works u) {p : Word}
    (aligned : p.toNat % s.cfg.ialignBytes = 0) : (u.setPc p).ControlInv := by
  obtain ⟨priv, mpp, -, mepc, sepc⟩ := inv
  rw [works.frame]
  exact ⟨priv, mpp, State.truncX_aligned aligned, mepc, sepc⟩

theorem State.ControlInv.enterTrap {s : State} (inv : s.ControlInv) (cause tval : Word) {target : Word}
    (aligned : target.toNat % s.cfg.ialignBytes = 0) : (s.enterTrap cause tval target).ControlInv := by
  obtain ⟨priv, -, -, -, sepc⟩ := inv
  exact ⟨Modes.has_machine _, priv, State.truncX_aligned aligned, s.maskEpc_aligned s.pc, sepc⟩

theorem State.ControlInv.takeIrq {s : State} (inv : s.ControlInv) (i : Nat) : (s.takeIrq i).ControlInv := by
  refine inv.enterTrap _ _ ?_
  have base := s.trapBase_aligned
  split
  · rw [BitVec.toNat_add, BitVec.toNat_ofNat]
    rcases ialignBytes_eq s.cfg with ⟨-, k⟩ | ⟨-, k⟩ <;> rw [k] at base ⊢ <;> omega
  · exact base

theorem State.ControlInv.returnM {s : State} (inv : s.ControlInv) : s.returnM.ControlInv := by
  obtain ⟨-, mpp, -, mepc, sepc⟩ := inv
  refine ⟨mpp, ?_, s.maskEpc_aligned s.mepc, mepc, sepc⟩
  change s.cfg.modes.has (if s.cfg.modes.has .user = true then .user else s.mpp) = true
  split
  · assumption
  · exact mpp

theorem State.ControlInv.returnS {s : State} (inv : s.ControlInv) (supervisor : s.cfg.modes.has .supervisor = true) :
    s.returnS.ControlInv := by
  obtain ⟨-, mpp, -, mepc, sepc⟩ := inv
  refine ⟨?_, mpp, s.maskEpc_aligned s.sepc, mepc, sepc⟩
  have msu := (Modes.has_supervisor _).1 supervisor
  change s.cfg.modes.has (if s.spp then .supervisor else .user) = true
  rw [msu]
  cases s.spp <;> rfl

theorem State.ControlInv.writeCsr {s : State} (inv : s.ControlInv) (c : Csr) (v : Word) : (s.writeCsr c v).ControlInv := by
  obtain ⟨priv, mpp, pc, mepc, sepc⟩ := inv
  cases c with
  | mstatus => exact ⟨priv, has_legalMpp _ _ _, pc, mepc, sepc⟩
  | mepc => exact ⟨priv, mpp, pc, s.maskEpc_aligned v, sepc⟩
  | sepc => exact ⟨priv, mpp, pc, mepc, s.maskEpc_aligned v⟩
  | fflags | frm | fcsr | counter | counterHigh | sstatus | mtvec | mcause | mtval | mscratch | mie | mip =>
    exact ⟨priv, mpp, pc, mepc, sepc⟩

theorem Length.cases {i : Instr} {len : Word} (h : Length i len) {cfg : Config} (short : i.short = true → cfg.c = true) :
    len = 4#64 ∨ cfg.c = true ∧ len = 2#64 := by
  unfold Length at h
  split at h
  · next two => exact .inr ⟨short two, h⟩
  · exact .inl h

/-- Every ending keeps the invariant; an instruction of two bytes needs C. -/
theorem Ending.keeps_controlInv {i : Instr} {s t : State} {o : Outcome} (h : Ending i s o) (inv : s.ControlInv)
    (short : i.short = true → s.cfg.c = true) (next : o = .next t) : t.ControlInv := by
  have pc : s.pc.toNat % s.cfg.ialignBytes = 0 := ((s.aligned_iff s.pc).1 inv.2.2.1).2
  cases h with
  | raises e =>
    obtain ⟨-, rfl⟩ := State.raise_next next
    exact inv.enterTrap _ _ s.trapBase_aligned
  | @advances u len length works =>
    cases next
    have same : u.pc = s.pc := by rw [works.frame]
    exact inv.goes works (same ▸ align_add pc (length.cases short))
  | jumps target works even ok =>
    cases next
    have even0 : s.pc[0] = false := by
      rw [getElem_zero_eq, decide_eq_false_iff_not]
      rcases ialignBytes_eq s.cfg with ⟨-, k⟩ | ⟨-, k⟩ <;> rw [k] at pc <;> omega
    exact inv.goes works (State.target_aligned (even even0) ok)
  | @accesses _ writes c rd v r =>
    cases next
    have written : (if writes then s.writeCsr c v else s).ControlInv := by
      cases writes
      · exact inv
      · exact inv.writeCsr c v
    have cfg : (if writes then s.writeCsr c v else s).cfg = s.cfg := by cases writes <;> simp
    refine written.goes (.setX (.refl _) rd r) ?_
    rw [cfg]
    refine align_add ?_ (.inl rfl)
    cases writes <;> simpa using pc
  | returnsM => cases next; exact inv.returnM
  | returnsS supervisor => cases next; exact inv.returnS supervisor
  | idles => cases next; exact inv

/-! ### A step -/

theorem State.ControlInv.begin {s : State} (inv : s.ControlInv) : s.begin.ControlInv := by
  obtain ⟨priv, mpp, pc, mepc, sepc⟩ := inv
  obtain ⟨pending, inputs, pc', eq, -, -, wakes, stays⟩ := step_begins s
  rw [eq]
  refine ⟨priv, mpp, (?_ : pc'.toNat = s.evenPc pc'), mepc, sepc⟩
  by_cases woken : s.idle = true ∧ (∃ i, s.begin.Pending i) ∧ (s.priv = .machine → s.mie = true)
  · have goes : pc' = truncX s.cfg.xlen (s.pc + 4#64) :=
      BitVec.eq_of_toNat_eq ((wakes woken).trans (State.truncX_toNat_of_holds (s.holds_link 4)).symm)
    rw [goes]
    exact State.truncX_aligned (align_add ((s.aligned_iff s.pc).1 pc).2 (.inl rfl))
  · rw [stays woken]
    exact pc

theorem State.decoded_of_fetchInstr {s : State} {i : Instr} (h : s.fetchInstr = .ok i) :
    ∃ code, decodeCode s.cfg code = .ok i := by
  unfold State.fetchInstr at h
  split at h
  · cases h
  · next code _ =>
    split at h
    · cases h
    · next j decoded => cases h; exact ⟨code, decoded⟩

/-- Settles O12: what a step runs decodes, and so is a machine instruction available with these parameters (O3). -/
theorem step_keeps_control_inv : Obligations.step_keeps_control_inv := by
  intro s t inv next
  have begun := inv.begin
  rcases step_cases s with ⟨i, -, h⟩ | ⟨-, e, -, h⟩ | ⟨-, i, fetched, h⟩
  · rw [h] at next
    cases next
    exact begun.takeIrq i
  · exact (Ending.raises (i := .nop) e).keeps_controlInv begun nofun (h ▸ next)
  · obtain ⟨code, decoded⟩ := State.decoded_of_fetchInstr fetched
    obtain ⟨wf, machine, -⟩ := encode_decode s.begin.cfg code i decoded
    obtain ⟨available, -⟩ := Bool.and_eq_true_iff.1 wf
    exact (exec_ending s.begin i machine).keeps_controlInv begun (Instr.c_of_short available) (h ▸ next)

end Sys2Proof.Machine
end

section
/-! PROOFS. What a bit pattern stands for, and the numerical order (45_rvf.md, R341, R348 to R350). -/

namespace Sys2Proof.Machine

open Sys2Proof

/-! ### A pattern as a sign and a place in the order of the magnitudes -/

/-- The pattern without its sign. -/
def fpIndex (m : Fmt) (v : Nat) : Nat := v % m.signWeight

/-- The place of the infinities. -/
def Fmt.top (m : Fmt) : Nat := (2 ^ m.w - 1) * 2 ^ m.t

/-- The number at a place, in units of `2 ^ qmin`. -/
def fpMagnitude (m : Fmt) (n : Nat) : Nat :=
  if n < 2 ^ m.t then n else (2 ^ m.t + n % 2 ^ m.t) * 2 ^ (n / 2 ^ m.t - 1)

variable {m : Fmt} {v n : Nat}

theorem fpIndex_div (m : Fmt) (v : Nat) : v / 2 ^ m.t % 2 ^ m.w = fpIndex m v / 2 ^ m.t := by
  rw [fpIndex, Fmt.signWeight, pow_add, mul_comm, Nat.mod_mul_right_div_self]

theorem fpIndex_mod (m : Fmt) (v : Nat) : v % 2 ^ m.t = fpIndex m v % 2 ^ m.t := by
  rw [fpIndex, Fmt.signWeight, pow_add, Nat.mod_mul_left_mod]

theorem fpIndex_div_lt (m : Fmt) (v : Nat) : fpIndex m v / 2 ^ m.t < 2 ^ m.w :=
  fpIndex_div m v ▸ Nat.mod_lt _ (Nat.two_pow_pos _)

theorem fpNeg_eq (m : Fmt) (v : Nat) : fpNeg m v = decide (v / 2 ^ (m.w + m.t) % 2 = 1) := rfl

theorem fpUnpack_of_top (h : fpIndex m v / 2 ^ m.t = 2 ^ m.w - 1) :
    fpUnpack m v = if fpIndex m v % 2 ^ m.t = 0 then .inf (fpNeg m v)
      else .nan (decide (fpIndex m v % 2 ^ m.t < 2 ^ (m.t - 1))) := by
  unfold fpUnpack
  dsimp only
  rw [fpIndex_div m v, fpIndex_mod m v, if_pos h]

theorem fpUnpack_of_finite (h : fpIndex m v / 2 ^ m.t ≠ 2 ^ m.w - 1) :
    fpUnpack m v = if fpIndex m v / 2 ^ m.t = 0 then .fin (fpNeg m v) (fpIndex m v % 2 ^ m.t) m.qmin
      else .fin (fpNeg m v) (2 ^ m.t + fpIndex m v % 2 ^ m.t) ((fpIndex m v / 2 ^ m.t : Nat) - m.bias - m.t) := by
  unfold fpUnpack
  dsimp only
  rw [fpIndex_div m v, fpIndex_mod m v, if_neg h]

theorem mul_add_mod_of_lt {a b c : Nat} (h : c < b) : (a * b + c) % b = c := by
  rw [Nat.add_comm, Nat.add_mul_mod_self_right, Nat.mod_eq_of_lt h]

theorem mul_add_div_of_lt {a b c : Nat} (h : c < b) : (a * b + c) / b = a := by
  rw [Nat.add_comm, Nat.add_mul_div_right _ _ (by omega), Nat.div_eq_of_lt h, Nat.zero_add]

/-! ### The magnitudes rise -/

theorem fpMagnitude_of_lt (h : n < 2 ^ m.t) : fpMagnitude m n = n := if_pos h

/-- The number of fraction `j` and exponent field `e + 1`; the fraction may carry into the exponent. -/
theorem fpMagnitude_succ_mul_add (m : Fmt) (e : Nat) {j : Nat} (h : j ≤ 2 ^ m.t) :
    fpMagnitude m ((e + 1) * 2 ^ m.t + j) = (2 ^ m.t + j) * 2 ^ e := by
  have pos := Nat.two_pow_pos m.t
  have big : ¬(e + 1) * 2 ^ m.t + j < 2 ^ m.t := by
    rw [Nat.add_mul]
    omega
  rw [fpMagnitude, if_neg big]
  rcases h.lt_or_eq with small | rfl
  · rw [mul_add_mod_of_lt small, mul_add_div_of_lt small]
    rfl
  · have carry : (e + 1) * 2 ^ m.t + 2 ^ m.t = (e + 2) * 2 ^ m.t := by ring
    rw [carry, Nat.mul_mod_left, Nat.mul_div_cancel _ pos, show e + 2 - 1 = e + 1 by omega]
    ring

/-- Every place is below `2 ^ t`, or a fraction under an exponent field. -/
theorem fpMagnitude_cases (m : Fmt) (n : Nat) : n < 2 ^ m.t ∨ ∃ e j, j < 2 ^ m.t ∧ n = (e + 1) * 2 ^ m.t + j := by
  have pos := Nat.two_pow_pos m.t
  by_cases small : n < 2 ^ m.t
  · exact .inl small
  · refine .inr ⟨n / 2 ^ m.t - 1, n % 2 ^ m.t, Nat.mod_lt _ pos, ?_⟩
    have one : 1 ≤ n / 2 ^ m.t := (Nat.one_le_div_iff pos).2 (by omega)
    rw [Nat.sub_add_cancel one, Nat.div_add_mod']

theorem fpMagnitude_strictMono (m : Fmt) : StrictMono (fpMagnitude m) := by
  refine strictMono_nat_of_lt_succ fun n => ?_
  have pos := Nat.two_pow_pos m.t
  rcases fpMagnitude_cases m n with small | ⟨e, j, hj, rfl⟩
  · rw [fpMagnitude_of_lt small]
    rcases Nat.lt_or_eq_of_le (show n + 1 ≤ 2 ^ m.t from small) with below | at_top
    · rw [fpMagnitude_of_lt below]
      exact Nat.lt_succ_self n
    · have first := fpMagnitude_succ_mul_add m 0 (Nat.zero_le (2 ^ m.t))
      simp only [Nat.zero_add, Nat.one_mul, Nat.add_zero, pow_zero, Nat.mul_one] at first
      rw [at_top, first]
      omega
  · rw [Nat.add_assoc, fpMagnitude_succ_mul_add m e hj.le, fpMagnitude_succ_mul_add m e (show j + 1 ≤ _ from hj)]
    exact Nat.mul_lt_mul_of_pos_right (by omega) (Nat.two_pow_pos e)

theorem fpMagnitude_zero (m : Fmt) : fpMagnitude m 0 = 0 := fpMagnitude_of_lt (Nat.two_pow_pos _)

theorem fpMagnitude_eq_zero_iff : fpMagnitude m n = 0 ↔ n = 0 :=
  ⟨fun h => (fpMagnitude_strictMono m).injective (h.trans (fpMagnitude_zero m).symm), fun h => h ▸ fpMagnitude_zero m⟩

/-! ### Finite patterns -/

theorem rational_two_pow (neg : Bool) (k e : Nat) (q : Int) : rational neg (k * 2 ^ e) q = rational neg k (q + e) := by
  rw [rational, rational, zpow_add₀ two_ne_zero, zpow_natCast]
  push_cast
  ring

theorem rational_eq (neg : Bool) (k : Nat) (q : Int) : rational neg k q = if neg then -((k : ℚ) * 2 ^ q) else (k : ℚ) * 2 ^ q := by
  cases neg <;> simp [rational]

theorem rational_eq_zero_iff {neg : Bool} {k : Nat} {q : Int} : rational neg k q = 0 ↔ k = 0 := by
  have : (2 : ℚ) ^ q ≠ 0 := zpow_ne_zero _ two_ne_zero
  cases neg <;> simp [rational, this]

theorem top_le_iff (m : Fmt) (v : Nat) : m.top ≤ fpIndex m v ↔ fpIndex m v / 2 ^ m.t = 2 ^ m.w - 1 := by
  have pos := Nat.two_pow_pos m.t
  have small := fpIndex_div_lt m v
  rw [Fmt.top, ← Nat.le_div_iff_mul_le pos]
  omega

/-- A finite pattern is the number at its place, with its sign. -/
theorem fpReal_of_lt (h : fpIndex m v < m.top) :
    fpReal m v = some (rational (fpNeg m v) (fpMagnitude m (fpIndex m v)) m.qmin) := by
  have pos := Nat.two_pow_pos m.t
  have finite : fpIndex m v / 2 ^ m.t ≠ 2 ^ m.w - 1 := fun top => by
    have := (top_le_iff m v).2 top
    omega
  rw [fpReal, fpUnpack_of_finite finite]
  rcases fpMagnitude_cases m (fpIndex m v) with small | ⟨e, j, hj, eq⟩
  · rw [fpMagnitude_of_lt small, if_pos (Nat.div_eq_of_lt small), Nat.mod_eq_of_lt small]
  · have field : fpIndex m v / 2 ^ m.t = e + 1 := by
      rw [eq, Nat.add_comm, Nat.add_mul_div_right _ _ pos, Nat.div_eq_of_lt hj, Nat.zero_add]
    have fraction : fpIndex m v % 2 ^ m.t = j := by rw [eq, mul_add_mod_of_lt hj]
    rw [field, if_neg (Nat.succ_ne_zero e), fraction, eq, fpMagnitude_succ_mul_add m e hj.le, rational_two_pow]
    exact congrArg (fun q => some (rational _ _ q)) (by rw [Fmt.qmin]; push_cast; ring)

theorem fpReal_of_top (h : m.top ≤ fpIndex m v) : fpReal m v = none := by
  rw [fpReal, fpUnpack_of_top ((top_le_iff m v).1 h)]
  by_cases zero : fpIndex m v % 2 ^ m.t = 0 <;> simp [zero]

theorem lt_top_of_fpReal {x : ℚ} (h : fpReal m v = some x) : fpIndex m v < m.top := by
  by_contra top
  rw [fpReal_of_top (by omega)] at h
  cases h

theorem fpReal_eq_some {x : ℚ} (h : fpReal m v = some x) :
    x = rational (fpNeg m v) (fpMagnitude m (fpIndex m v)) m.qmin :=
  (Option.some.inj ((fpReal_of_lt (lt_top_of_fpReal h)).symm.trans h)).symm

theorem fpUnpack_eq_inf_iff {neg : Bool} : fpUnpack m v = .inf neg ↔ fpIndex m v = m.top ∧ fpNeg m v = neg := by
  have pos := Nat.two_pow_pos m.t
  by_cases top : fpIndex m v / 2 ^ m.t = 2 ^ m.w - 1
  · have split := Nat.div_add_mod' (fpIndex m v) (2 ^ m.t)
    rw [top] at split
    rw [fpUnpack_of_top top, Fmt.top]
    by_cases zero : fpIndex m v % 2 ^ m.t = 0
    · rw [zero, Nat.add_zero] at split
      rw [if_pos zero, FpVal.inf.injEq, ← split]
      exact ⟨fun neg => ⟨rfl, neg⟩, fun ⟨_, neg⟩ => neg⟩
    · simp only [zero, if_false, reduceCtorEq, false_iff]
      omega
  · have below : fpIndex m v ≠ m.top := fun eq => top ((top_le_iff m v).1 eq.ge)
    rw [fpUnpack_of_finite top]
    split <;> simp [below]

theorem fpIsNan_iff : fpIsNan m v = true ↔ m.top < fpIndex m v := by
  have pos := Nat.two_pow_pos m.t
  rw [fpIsNan]
  by_cases top : fpIndex m v / 2 ^ m.t = 2 ^ m.w - 1
  · have split := Nat.div_add_mod' (fpIndex m v) (2 ^ m.t)
    rw [top] at split
    rw [fpUnpack_of_top top, Fmt.top]
    by_cases zero : fpIndex m v % 2 ^ m.t = 0
    · simp only [zero, if_true, FpVal.isNan, Bool.false_eq_true, false_iff]
      omega
    · simp only [zero, if_false, FpVal.isNan, true_iff]
      omega
  · have below : ¬m.top < fpIndex m v := fun lt => top ((top_le_iff m v).1 lt.le)
    rw [fpUnpack_of_finite top]
    split <;> simp [below, FpVal.isNan]

theorem le_top_of_not_nan (h : fpIsNan m v = false) : fpIndex m v ≤ m.top := by
  by_contra above
  rw [fpIsNan_iff.2 (by omega)] at h
  cases h

theorem isSignaling_of_not_nan (h : fpIsNan m v = false) : fpIsSignaling m v = false := by
  unfold fpIsSignaling
  unfold fpIsNan at h
  cases eq : fpUnpack m v <;> simp_all [FpVal.isNan, FpVal.isSignaling]

/-! ### The order (R348, R350) -/

section
variable {a b : Nat}

theorem fpKey_eq (m : Fmt) (v : Nat) : fpKey m v = if fpNeg m v then -(fpIndex m v : Int) else fpIndex m v := rfl

/-- The numbers stand in the order of the keys. -/
theorem lt_iff_fpKey_lt {x y : ℚ} (hx : fpReal m a = some x) (hy : fpReal m b = some y) :
    x < y ↔ fpKey m a < fpKey m b := by
  have mono := (fpMagnitude_strictMono m).lt_iff_lt (a := fpIndex m a) (b := fpIndex m b)
  have mono' := (fpMagnitude_strictMono m).lt_iff_lt (a := fpIndex m b) (b := fpIndex m a)
  have zeroA := fpMagnitude_eq_zero_iff (m := m) (n := fpIndex m a)
  have zeroB := fpMagnitude_eq_zero_iff (m := m) (n := fpIndex m b)
  have unit : (0 : ℚ) < 2 ^ m.qmin := zpow_pos two_pos _
  have scaled (u v : Int) : (u : ℚ) * 2 ^ m.qmin < v * 2 ^ m.qmin ↔ u < v := by
    rw [mul_lt_mul_iff_left₀ unit, Int.cast_lt]
  have signed (neg : Bool) (k : Nat) : rational neg k m.qmin = ((if neg then -(k : Int) else k : Int) : ℚ) * 2 ^ m.qmin := by
    cases neg <;> simp [rational]
  rw [fpReal_eq_some hx, fpReal_eq_some hy, signed, signed, scaled, fpKey_eq, fpKey_eq]
  cases fpNeg m a <;> cases fpNeg m b <;> simp only [Bool.false_eq_true, if_false, if_true] <;> omega

theorem eq_iff_fpKey_eq {x y : ℚ} (hx : fpReal m a = some x) (hy : fpReal m b = some y) :
    x = y ↔ fpKey m a = fpKey m b := by
  have less := lt_iff_fpKey_lt hx hy
  have greater := lt_iff_fpKey_lt hy hx
  rw [eq_iff_le_not_lt, eq_iff_le_not_lt, ← not_lt, ← not_lt, less, greater]

/-- What the comparisons, minimum and maximum say of a number below another. -/
def Below (m : Fmt) (a b : Nat) : Prop :=
  fpEq m a b = (false, 0) ∧ fpEq m b a = (false, 0) ∧ fpLt m a b = (true, 0) ∧
    fpLt m b a = (false, 0) ∧ fpLe m a b = (true, 0) ∧ fpLe m b a = (false, 0) ∧
    fpMin m a b = (a, 0) ∧ fpMin m b a = (a, 0) ∧ fpMax m a b = (b, 0) ∧ fpMax m b a = (b, 0)

theorem below_of_fpKey_lt (na : fpIsNan m a = false) (nb : fpIsNan m b = false) (h : fpKey m a < fpKey m b) :
    Below m a b := by
  have ne : fpKey m a ≠ fpKey m b := h.ne
  have not : ¬fpKey m b < fpKey m a := h.not_gt
  unfold Below fpEq fpLt fpLe fpMin fpMax
  simp [na, nb, isSignaling_of_not_nan, h, ne, ne.symm, not, h.le, nanFlag]

theorem compare_of_fpKey_eq (na : fpIsNan m a = false) (nb : fpIsNan m b = false) (h : fpKey m a = fpKey m b) :
    fpEq m a b = (true, 0) ∧ fpLt m a b = (false, 0) ∧ fpLe m a b = (true, 0) ∧
      fpMin m a b = (if fpNeg m a then a else b, 0) ∧ fpMax m a b = (if fpNeg m a then b else a, 0) := by
  unfold fpEq fpLt fpLe fpMin fpMax
  simp [na, nb, isSignaling_of_not_nan, h, nanFlag]

theorem not_nan_of_fpReal {x : ℚ} (h : fpReal m v = some x) : fpIsNan m v = false := by
  have below := lt_top_of_fpReal h
  exact Bool.eq_false_iff.2 fun nan => by have := fpIsNan_iff.1 nan; omega

/-- An infinity is at the end of the order. -/
theorem fpKey_lt_of_inf (pos : 0 < m.top) (na : fpIsNan m a = false) (nb : fpIsNan m b = false)
    (h : fpUnpack m a = .inf true ∧ fpUnpack m b ≠ .inf true ∨ fpUnpack m b = .inf false ∧ fpUnpack m a ≠ .inf false) :
    fpKey m a < fpKey m b := by
  have lea := le_top_of_not_nan na
  have leb := le_top_of_not_nan nb
  rw [fpKey_eq, fpKey_eq]
  rcases h with ⟨inf, other⟩ | ⟨inf, other⟩
  · obtain ⟨top, neg⟩ := fpUnpack_eq_inf_iff.1 inf
    rw [Ne, fpUnpack_eq_inf_iff, not_and] at other
    rw [if_pos neg, top]
    split
    · have : fpIndex m b ≠ m.top := fun eq => other eq ‹_›
      omega
    · omega
  · obtain ⟨top, neg⟩ := fpUnpack_eq_inf_iff.1 inf
    rw [Ne, fpUnpack_eq_inf_iff, not_and] at other
    rw [neg, top]
    cases na : fpNeg m a with
    | true => simp; omega
    | false =>
      have : fpIndex m a ≠ m.top := fun eq => other eq na
      simp; omega

end

/-! ### The classes (R349) -/

/-- The bit of the class mask that is set. -/
def classBit (e f top half : Nat) (neg : Bool) : Nat :=
  if e = top then (if f = 0 then (if neg then 0 else 7) else if f < half then 8 else 9)
  else if e = 0 then (if f = 0 then (if neg then 3 else 4) else if neg then 2 else 5)
  else if neg then 1 else 6

theorem fpClassify_eq (m : Fmt) (v : Nat) :
    fpClassify m v = 1#10 <<< classBit (fpIndex m v / 2 ^ m.t) (fpIndex m v % 2 ^ m.t) (2 ^ m.w - 1) (2 ^ (m.t - 1))
      (fpNeg m v) := by
  have frac : fpIndex m v % 2 ^ m.t < 2 ^ m.t := Nat.mod_lt _ (Nat.two_pow_pos _)
  unfold fpClassify classBit
  by_cases top : fpIndex m v / 2 ^ m.t = 2 ^ m.w - 1
  · rw [fpUnpack_of_top top, if_pos top]
    by_cases zero : fpIndex m v % 2 ^ m.t = 0
    · rw [if_pos zero, if_pos zero]
      cases fpNeg m v <;> rfl
    · rw [if_neg zero, if_neg zero]
      by_cases signaling : fpIndex m v % 2 ^ m.t < 2 ^ (m.t - 1) <;> simp [signaling]
  · rw [fpUnpack_of_finite top, if_neg top]
    by_cases zero : fpIndex m v / 2 ^ m.t = 0
    · rw [if_pos zero, if_pos zero]
      by_cases none : fpIndex m v % 2 ^ m.t = 0
      · cases fpNeg m v <;> simp [none]
      · cases fpNeg m v <;> simp [none, frac]
    · rw [if_neg zero, if_neg zero]
      have normal : 2 ^ m.t + fpIndex m v % 2 ^ m.t ≠ 0 := by
        have := Nat.two_pow_pos m.t
        omega
      cases fpNeg m v <;> simp

theorem one_shiftLeft_getLsbD {k n : Nat} (hk : k < 10) : (1#10 <<< n).getLsbD k = true ↔ k = n := by
  rw [BitVec.getLsbD_shiftLeft]
  simp [hk, BitVec.getLsbD_one]
  omega

/-! ### The statement -/

/-- What the two formats have in common. -/
structure Fmt.Standard (m : Fmt) : Prop where
  w : 2 ≤ m.w
  t : 2 ≤ m.t

theorem standard_of_mem {m : Fmt} (h : m ∈ [Fmt.single, Fmt.double]) : m.Standard := by
  simp only [List.mem_cons, List.not_mem_nil, or_false] at h
  rcases h with rfl | rfl <;> exact ⟨by decide, by decide⟩

theorem Fmt.Standard.top_pos {m : Fmt} (h : m.Standard) : 0 < m.top := by
  have := Nat.one_lt_two_pow (n := m.w) (by have := h.w; omega)
  exact Nat.mul_pos (by omega) (Nat.two_pow_pos _)

/-- The statement of O60 for one format, in its own parameters. -/
theorem compare_and_classify (standard : m.Standard) (a b : Nat) :
    let e := a / 2 ^ m.t % 2 ^ m.w
    let f := a % 2 ^ m.t
    let top := 2 ^ m.w - 1
    let neg : Bool := decide (a / 2 ^ (m.w + m.t) % 2 = 1)
    let number : Nat → Int → ℚ := fun k q => (if neg then -1 else 1) * (k : ℚ) * (2 : ℚ) ^ q
    (fpNeg m a = neg ∧
      (e = top → fpReal m a = none ∧
        fpUnpack m a = if f = 0 then .inf neg else .nan (decide (f < 2 ^ (m.t - 1)))) ∧
      (e = 0 → fpReal m a = some (number f (1 - m.bias - m.t))) ∧
      (0 < e → e < top → fpReal m a = some (number (2 ^ m.t + f) (e - m.bias - m.t))) ∧
      (fpIsNan m a = true ↔ e = top ∧ f ≠ 0) ∧
      (fpIsSignaling m a = true ↔ e = top ∧ f ≠ 0 ∧ f < 2 ^ (m.t - 1))) ∧
    (∀ x y : ℚ, fpReal m a = some x → fpReal m b = some y → (x < y → Below m a b) ∧
      (x = y → fpEq m a b = (true, 0) ∧ fpLt m a b = (false, 0) ∧ fpLe m a b = (true, 0) ∧
        fpMin m a b = (if fpNeg m a then a else b, 0) ∧ fpMax m a b = (if fpNeg m a then b else a, 0))) ∧
    (fpIsNan m a = false → fpIsNan m b = false →
      (fpUnpack m a = .inf true ∧ fpUnpack m b ≠ .inf true) ∨
        (fpUnpack m b = .inf false ∧ fpUnpack m a ≠ .inf false) → Below m a b) ∧
    (∀ n, fpUnpack m a = .inf n → fpUnpack m b = .inf n →
      fpEq m a b = (true, 0) ∧ fpLt m a b = (false, 0) ∧ fpLe m a b = (true, 0) ∧
        ∀ op ∈ [fpMin, fpMax], op m a b = (a, 0) ∨ op m a b = (b, 0)) ∧
    ∀ k < 10, ((fpClassify m a).getLsbD k = true ↔ k = classBit e f top (2 ^ (m.t - 1)) neg) := by
  dsimp only
  rw [fpIndex_div m a, fpIndex_mod m a, ← fpNeg_eq]
  refine ⟨⟨rfl, fun top => ⟨?_, fpUnpack_of_top top⟩, fun zero => ?_, fun low high => ?_, ?_, ?_⟩,
    fun x y hx hy => ⟨fun less => ?_, fun eq => ?_⟩, fun na nb inf => ?_, fun n ia ib => ?_, fun k hk => ?_⟩
  · exact fpReal_of_top ((top_le_iff m a).2 top)
  · have ne : fpIndex m a / 2 ^ m.t ≠ 2 ^ m.w - 1 := by
      have := Nat.one_lt_two_pow (n := m.w) (by have := standard.w; omega)
      omega
    rw [fpReal, fpUnpack_of_finite ne, if_pos zero]
    rfl
  · rw [fpReal, fpUnpack_of_finite high.ne, if_neg low.ne']
    rfl
  · rw [fpIsNan]
    by_cases top : fpIndex m a / 2 ^ m.t = 2 ^ m.w - 1
    · rw [fpUnpack_of_top top]
      by_cases zero : fpIndex m a % 2 ^ m.t = 0 <;> simp [zero, top, FpVal.isNan]
    · rw [fpUnpack_of_finite top]
      split <;> simp [top, FpVal.isNan]
  · rw [fpIsSignaling]
    by_cases top : fpIndex m a / 2 ^ m.t = 2 ^ m.w - 1
    · rw [fpUnpack_of_top top]
      by_cases zero : fpIndex m a % 2 ^ m.t = 0 <;> simp [zero, top, FpVal.isSignaling]
    · rw [fpUnpack_of_finite top]
      split <;> simp [top, FpVal.isSignaling]
  · exact below_of_fpKey_lt (not_nan_of_fpReal hx) (not_nan_of_fpReal hy) ((lt_iff_fpKey_lt hx hy).1 less)
  · exact compare_of_fpKey_eq (not_nan_of_fpReal hx) (not_nan_of_fpReal hy) ((eq_iff_fpKey_eq hx hy).1 eq)
  · exact below_of_fpKey_lt na nb (fpKey_lt_of_inf standard.top_pos na nb inf)
  · have na : fpIsNan m a = false := by rw [fpIsNan, ia]; rfl
    have nb : fpIsNan m b = false := by rw [fpIsNan, ib]; rfl
    obtain ⟨topA, negA⟩ := fpUnpack_eq_inf_iff.1 ia
    obtain ⟨topB, negB⟩ := fpUnpack_eq_inf_iff.1 ib
    obtain ⟨eq, lt, le, min, max⟩ := compare_of_fpKey_eq na nb (by rw [fpKey_eq, fpKey_eq, topA, topB, negA, negB])
    refine ⟨eq, lt, le, fun op mem => ?_⟩
    simp only [List.mem_cons, List.not_mem_nil, or_false] at mem
    rcases mem with rfl | rfl
    · rw [min]; cases fpNeg m a <;> simp
    · rw [max]; cases fpNeg m a <;> simp
  · rw [fpClassify_eq]
    exact one_shiftLeft_getLsbD hk

/-- Settles O60, for each format in its own parameters. -/
theorem compare_and_classify_values : Obligations.compare_and_classify_values := by
  intro m mem a b
  have parts := compare_and_classify (standard_of_mem mem) a b
  simp only [List.mem_cons, List.not_mem_nil, or_false] at mem
  rcases mem with rfl | rfl <;> exact parts

end Sys2Proof.Machine
end

section
/-! PROOFS. Rounding to an integer (45_rvf.md, R344 a, R347): the integer below or the one above, as the mode chooses. -/

namespace Sys2Proof.Machine

open Sys2Proof

/-! ### The choice of the mode -/

/-- Whether the mode goes up from the integer `lo` to round `x`, for a number of the sign. -/
def GoesUp (mode : RoundMode) (neg : Bool) (lo : Nat) (x : ℚ) : Prop :=
  match mode with
  | .rne => (2 * lo + 1 : ℚ) < 2 * x ∨ 2 * x = 2 * lo + 1 ∧ lo % 2 = 1
  | .rmm => (2 * lo + 1 : ℚ) ≤ 2 * x
  | .rtz => False
  | .rdn => neg = true ∧ x ≠ lo
  | .rup => neg = false ∧ x ≠ lo

/-- `n` is the integer that the mode chooses for the magnitude `x` of a number of the sign. -/
def Chosen (mode : RoundMode) (neg : Bool) (x : ℚ) (n : Nat) : Prop :=
  ∃ lo : Nat, (lo : ℚ) ≤ x ∧ x < lo + 1 ∧
    (GoesUp mode neg lo x ∧ n = lo + 1 ∨ ¬GoesUp mode neg lo x ∧ n = lo)

variable {mode : RoundMode} {neg : Bool} {x : ℚ} {n : Nat}

theorem not_goesUp_self (mode : RoundMode) (neg : Bool) (lo : Nat) : ¬GoesUp mode neg lo lo := by
  cases mode <;> simp [GoesUp]

/-- What the mode chooses is exact when the magnitude is an integer, and only then. -/
theorem Chosen.exact_iff (h : Chosen mode neg x n) : (n : ℚ) = x ↔ ∃ j : Nat, x = j := by
  obtain ⟨lo, low, high, choice⟩ := h
  refine ⟨fun eq => ⟨n, eq.symm⟩, ?_⟩
  rintro ⟨j, rfl⟩
  have same : j = lo := by
    have : lo ≤ j := by exact_mod_cast low
    have : j < lo + 1 := by exact_mod_cast high
    omega
  subst same
  rcases choice with ⟨up, -⟩ | ⟨-, rfl⟩
  · exact absurd up (not_goesUp_self mode neg j)
  · rfl

theorem div_two_pow_eq (k s : Nat) : (k : ℚ) / 2 ^ s = (k / 2 ^ s : Nat) + ((k % 2 ^ s : Nat) : ℚ) / 2 ^ s := by
  have pos : (2 : ℚ) ^ s ≠ 0 := by positivity
  have parts : (k : ℚ) = (k / 2 ^ s : Nat) * 2 ^ s + (k % 2 ^ s : Nat) := by exact_mod_cast (Nat.div_add_mod' k (2 ^ s)).symm
  field_simp
  linarith

/-- A quotient by a power of two is an integer when nothing is shifted out. -/
theorem div_two_pow_integer_iff (k s : Nat) : (∃ j : Nat, (k : ℚ) / 2 ^ s = j) ↔ k % 2 ^ s = 0 := by
  have pos : (2 : ℚ) ^ s ≠ 0 := by positivity
  constructor
  · rintro ⟨j, h⟩
    rw [div_eq_iff pos] at h
    have : k = j * 2 ^ s := by exact_mod_cast h
    rw [this, Nat.mul_mod_left]
  · intro h
    exact ⟨k / 2 ^ s, by rw [div_two_pow_eq, h]; simp⟩

/-- What `roundShift` computes is what the mode chooses. -/
theorem roundShift_chosen (mode : RoundMode) (neg : Bool) (k s : Nat) :
    Chosen mode neg ((k : ℚ) / 2 ^ s) (roundShift mode neg k s) := by
  have pos : (0 : ℚ) < 2 ^ s := by positivity
  have rem : k % 2 ^ s < 2 ^ s := Nat.mod_lt _ (Nat.two_pow_pos s)
  have parts := div_two_pow_eq k s
  have fracNonneg : (0 : ℚ) ≤ ((k % 2 ^ s : Nat) : ℚ) / 2 ^ s := by positivity
  have fracLt : ((k % 2 ^ s : Nat) : ℚ) / 2 ^ s < 1 := by
    rw [div_lt_one pos]
    exact_mod_cast rem
  have above : (1 : ℚ) < 2 * (((k % 2 ^ s : Nat) : ℚ) / 2 ^ s) ↔ 2 ^ s < 2 * (k % 2 ^ s) := by
    rw [mul_div_assoc', one_lt_div pos]
    exact_mod_cast Iff.rfl
  have tie : 2 * (((k % 2 ^ s : Nat) : ℚ) / 2 ^ s) = 1 ↔ 2 * (k % 2 ^ s) = 2 ^ s := by
    rw [mul_div_assoc', div_eq_one_iff_eq pos.ne']
    exact_mod_cast Iff.rfl
  have zero : ((k % 2 ^ s : Nat) : ℚ) / 2 ^ s = 0 ↔ k % 2 ^ s = 0 := by
    rw [div_eq_zero_iff, or_iff_left pos.ne', Nat.cast_eq_zero]
  refine ⟨k / 2 ^ s, by linarith, by linarith, ?_⟩
  rw [parts]
  generalize ((k % 2 ^ s : Nat) : ℚ) / 2 ^ s = frac at *
  unfold roundShift GoesUp
  cases mode with
  | rne =>
    have h1 : (2 * (k / 2 ^ s : Nat) + 1 : ℚ) < 2 * ((k / 2 ^ s : Nat) + frac) ↔ 2 ^ s < 2 * (k % 2 ^ s) := by
      rw [← above]; constructor <;> intro h <;> linarith
    have h2 : 2 * ((k / 2 ^ s : Nat) + frac) = (2 * (k / 2 ^ s : Nat) + 1 : ℚ) ↔ 2 * (k % 2 ^ s) = 2 ^ s := by
      rw [← tie]; constructor <;> intro h <;> linarith
    simp only [h1, h2]
    grind
  | rmm =>
    have h1 : (2 * (k / 2 ^ s : Nat) + 1 : ℚ) ≤ 2 * ((k / 2 ^ s : Nat) + frac) ↔ 2 ^ s ≤ 2 * (k % 2 ^ s) := by
      rw [le_iff_lt_or_eq, le_iff_lt_or_eq, ← above, eq_comm (a := 2 ^ s), ← tie]
      exact or_congr ⟨fun h => by linarith, fun h => by linarith⟩ ⟨fun h => by linarith, fun h => by linarith⟩
    simp only [h1]
    have : 2 ^ s ≤ 2 * (k % 2 ^ s) → k % 2 ^ s ≠ 0 := fun _ => by omega
    grind
  | rtz => exact .inr ⟨id, rfl⟩
  | rdn =>
    simp only [ne_eq, add_eq_left, zero]
    grind
  | rup =>
    simp only [ne_eq, add_eq_left, zero]
    grind

/-! ### Conversion to an integer (R347) -/

/-- The rounded integer of a magnitude, with its sign, is that of the number. -/
theorem Chosen.intRoundsTo (h : Chosen mode neg x n) :
    IntRoundsTo mode (negatedIf neg x) (if neg then -(n : Int) else n) := by
  obtain ⟨lo, low, high, choice⟩ := h
  have nonneg : 0 ≤ x := le_trans (Nat.cast_nonneg lo) low
  have floor : ⌊x⌋ = (lo : Int) := Int.floor_eq_iff.2 ⟨by exact_mod_cast low, by exact_mod_cast high⟩
  have ceil : ⌈x⌉ = if x = lo then (lo : Int) else lo + 1 := by
    split
    · next eq => rw [eq, Int.ceil_natCast]
    · next ne =>
      refine Int.ceil_eq_iff.2 ⟨?_, by push_cast; exact high.le⟩
      push_cast
      rw [add_sub_cancel_right]
      exact lt_of_le_of_ne low (Ne.symm ne)
  have distance : |((if neg then -(n : Int) else n : Int) : ℚ) - negatedIf neg x| = |(n : ℚ) - x| := by
    cases neg with
    | false => simp [negatedIf]
    | true =>
      rw [← abs_neg]
      simp [negatedIf]
      ring_nf
  have size : |((if neg then -(n : Int) else n : Int) : ℚ)| = n ∧ |negatedIf neg x| = x := by
    cases neg <;> simp [negatedIf, nonneg]
  have parity : (if neg then -(n : Int) else n) % 2 = 0 ↔ n % 2 = 0 := by
    cases neg <;> simp only [Bool.false_eq_true, if_false, if_true] <;> omega
  cases mode with
  | rtz =>
    obtain ⟨-, rfl⟩ := choice.resolve_left fun up => up.1
    cases neg with
    | false => simp [IntRoundsTo, negatedIf, nonneg, floor]
    | true =>
      simp only [IntRoundsTo, negatedIf, if_true, Int.ceil_neg, Int.floor_neg, floor]
      split
      · have zero : x = 0 := by linarith
        subst zero
        have : n = 0 := by exact_mod_cast le_antisymm low (Nat.cast_nonneg n)
        simp [this]
      · rfl
  | rdn =>
    cases neg with
    | false =>
      obtain ⟨-, rfl⟩ := choice.resolve_left fun up => Bool.false_ne_true up.1.1
      exact floor.symm
    | true =>
      simp only [IntRoundsTo, negatedIf, if_true, Int.floor_neg, ceil]
      rcases choice with ⟨up, rfl⟩ | ⟨stays, rfl⟩
      · rw [if_neg up.2]
        push_cast
        rfl
      · rw [if_pos (by simpa [GoesUp] using stays)]
  | rup =>
    cases neg with
    | false =>
      simp only [IntRoundsTo, negatedIf, Bool.false_eq_true, if_false, ceil]
      rcases choice with ⟨up, rfl⟩ | ⟨stays, rfl⟩
      · rw [if_neg up.2]
        push_cast
        rfl
      · rw [if_pos (by simpa [GoesUp] using stays)]
    | true =>
      obtain ⟨-, rfl⟩ := choice.resolve_left fun up => Bool.true_eq_false_eq_False up.1.1
      simp only [IntRoundsTo, negatedIf, if_true, Int.ceil_neg, floor]
  | rne =>
    rw [IntRoundsTo, distance, parity]
    rcases choice with ⟨up, rfl⟩ | ⟨stays, rfl⟩
    · have half : (2 * lo + 1 : ℚ) ≤ 2 * x := up.elim le_of_lt fun tie => tie.1.ge
      rw [abs_of_nonneg (by push_cast; linarith)]
      push_cast
      refine ⟨by linarith, fun tie => ?_⟩
      have odd := (up.resolve_left (by linarith)).2
      omega
    · simp only [GoesUp, not_or, not_lt, not_and] at stays
      rw [abs_sub_comm, abs_of_nonneg (by linarith)]
      refine ⟨by linarith, fun tie => ?_⟩
      have := stays.2 (by linarith)
      omega
  | rmm =>
    rw [IntRoundsTo, distance, size.1, size.2]
    rcases choice with ⟨up, rfl⟩ | ⟨stays, rfl⟩
    · have half : (2 * lo + 1 : ℚ) ≤ 2 * x := up
      rw [abs_of_nonneg (by push_cast; linarith)]
      push_cast
      exact ⟨by linarith, fun _ => by linarith⟩
    · have half : 2 * x < (2 * n + 1 : ℚ) := not_le.1 stays
      rw [abs_sub_comm, abs_of_nonneg (by linarith)]
      exact ⟨by linarith, fun tie => by linarith⟩

theorem rational_eq_negatedIf (neg : Bool) (k : Nat) (q : Int) : rational neg k q = negatedIf neg ((k : ℚ) * 2 ^ q) :=
  rational_eq neg k q

/-- A number in integers: a power of two above, or one below. -/
theorem scaled_eq_div (k : Nat) (q : Int) :
    ((k * 2 ^ q.toNat : Nat) : ℚ) / 2 ^ (-q).toNat = (k : ℚ) * 2 ^ q := by
  rcases le_total 0 q with pos | negative
  · obtain ⟨e, rfl⟩ := Int.eq_ofNat_of_zero_le pos
    simp
  · obtain ⟨e, eq⟩ := Int.eq_ofNat_of_zero_le (Int.neg_nonneg.2 negative)
    obtain rfl : q = -(e : Int) := by omega
    simp [div_eq_mul_inv]

theorem scaled_mod_eq_zero_iff (k : Nat) (q : Int) : k * 2 ^ q.toNat % 2 ^ (-q).toNat = 0 ↔ k % 2 ^ (-q).toNat = 0 := by
  rcases le_total 0 q with pos | negative
  · rw [show (-q).toNat = 0 by omega]
    simp [Nat.mod_one]
  · rw [show q.toNat = 0 by omega, pow_zero, Nat.mul_one]

theorem fpReal_eq_some_cases {m : Fmt} {v : Nat} {r : ℚ} (h : fpReal m v = some r) :
    ∃ neg k q, fpUnpack m v = .fin neg k q ∧ r = rational neg k q := by
  unfold fpReal at h
  split at h
  · next neg k q unpacked => exact ⟨neg, k, q, unpacked, (Option.some.inj h).symm⟩
  · cases h
  · cases h

/-- Settles O59, from the rounding of the magnitude. -/
theorem to_integer_values : Obligations.to_integer_values := by
  intro m _ mode lo hi v _
  refine ⟨fun r finite => ?_, fun nan => ?_, fun neg inf => ?_⟩
  · obtain ⟨neg, k, q, unpacked, rfl⟩ := fpReal_eq_some_cases finite
    have chosen := roundShift_chosen mode neg (k * 2 ^ q.toNat) (-q).toNat
    have exact_iff := chosen.exact_iff
    rw [div_two_pow_integer_iff, scaled_mod_eq_zero_iff] at exact_iff
    rw [scaled_eq_div] at chosen exact_iff
    refine ⟨_, rational_eq_negatedIf neg k q ▸ chosen.intRoundsTo, ?_⟩
    have same (n : Nat) : (((if neg then -(n : Int) else n : Int) : ℚ) = rational neg k q) ↔ (n : ℚ) = k * 2 ^ q := by
      rw [rational_eq]
      cases neg <;> simp
    simp only [fpToInt, unpacked, fpSaturate, same, exact_iff, beq_iff_eq]
    rfl
  · unfold fpIsNan at nan
    unfold fpToInt
    cases unpacked : fpUnpack m v with
    | nan s => rfl
    | inf neg => rw [unpacked] at nan; cases nan
    | fin neg k q => rw [unpacked] at nan; cases nan
  · rw [fpToInt, inf]

end Sys2Proof.Machine
end

section
/-! PROOFS. The neighbour that a mode chooses on the grid of a format (45_rvf.md, R344 a). -/

namespace Sys2Proof.Machine

open Sys2Proof

variable {m : Fmt} {units : Int → Prop} {mode : RoundMode} {neg : Bool} {x r y z : ℚ} {n : Nat} {q : Int}

/-! ### The grid -/

theorem rational_neg (neg : Bool) (k : Nat) (q : Int) : rational (!neg) k q = -rational neg k q := by
  cases neg <;> simp [rational]

theorem OnGrid.negated (h : OnGrid m units z) : OnGrid m units (-z) := by
  obtain ⟨neg, k, q, small, unit, rfl⟩ := h
  exact ⟨!neg, k, q, small, unit, (rational_neg neg k q).symm⟩

/-- `2 ^ q` is the unit of the grid around `x * 2 ^ q`: `x` has `p` bits, or there is no smaller unit. -/
def UnitAt (m : Fmt) (units : Int → Prop) (q : Int) (x : ℚ) : Prop :=
  units q ∧ x < 2 ^ (m.t + 1) ∧ (2 ^ m.t ≤ x ∨ ∀ q', units q' → q ≤ q')

theorem zpow_split {a b : Int} (h : a ≤ b) : (2 : ℚ) ^ b = 2 ^ (b - a).toNat * 2 ^ a := by
  rw [← zpow_natCast, ← zpow_add₀ two_ne_zero]
  congr 1
  omega

/-- No number of the grid lies between two neighbouring multiples of its unit. -/
theorem OnGrid.le_or_ge (h : OnGrid m units z) {lo : Nat} (unit : UnitAt m units q x) (high : x < lo + 1) :
    z ≤ lo * 2 ^ q ∨ ((lo : ℚ) + 1) * 2 ^ q ≤ z := by
  obtain ⟨-, -, bits⟩ := unit
  obtain ⟨neg, k, q', small, inUnits, rfl⟩ := h
  have pos : (0 : ℚ) < 2 ^ q := zpow_pos two_pos q
  by_cases coarse : q ≤ q'
  · have multiple : rational neg k q' =
        ((if neg then -(k * 2 ^ (q' - q).toNat : Int) else k * 2 ^ (q' - q).toNat : Int) : ℚ) * 2 ^ q := by
      rw [rational_eq, zpow_split coarse]
      cases neg <;> simp <;> ring
    rw [multiple]
    generalize (if neg then -(k * 2 ^ (q' - q).toNat : Int) else k * 2 ^ (q' - q).toNat : Int) = j
    rcases le_or_gt j lo with below | above
    · exact .inl (mul_le_mul_of_nonneg_right (by exact_mod_cast below) pos.le)
    · exact .inr (mul_le_mul_of_nonneg_right (by exact_mod_cast above) pos.le)
  · left
    have fine := bits.resolve_right fun least => coarse (least q' inUnits)
    have many : 2 ^ m.t ≤ lo := by
      have : (2 ^ m.t : ℚ) < lo + 1 := lt_of_le_of_lt fine high
      exact Nat.lt_succ_iff.1 (by exact_mod_cast this)
    have size : rational neg k q' ≤ (k : ℚ) * 2 ^ q' := by
      have : (0 : ℚ) ≤ (k : ℚ) * 2 ^ q' := by positivity
      rw [rational_eq]
      split <;> linarith
    calc rational neg k q' ≤ (k : ℚ) * 2 ^ q' := size
      _ ≤ 2 ^ (m.t + 1) * 2 ^ (q - 1) := by
          refine mul_le_mul (by exact_mod_cast small.le) (zpow_le_zpow_right₀ one_le_two (by omega)) (by positivity) (by positivity)
      _ = 2 ^ m.t * 2 ^ q := by
          rw [show (q : Int) = (q - 1) + 1 by omega, zpow_add₀ two_ne_zero, zpow_one, add_sub_cancel_right, pow_succ]
          ring
      _ ≤ lo * 2 ^ q := mul_le_mul_of_nonneg_right (by exact_mod_cast many) pos.le

/-- A number of at most `p` bits, or `2 ^ p` itself, is on the grid. -/
theorem onGrid_rational (up : ∀ q, units q → units (q + 1)) (unit : units q) (small : n ≤ 2 ^ (m.t + 1)) (neg : Bool) :
    OnGrid m units (rational neg n q) := by
  rcases small.lt_or_eq with less | rfl
  · exact ⟨neg, n, q, less, unit, rfl⟩
  · refine ⟨neg, 2 ^ m.t, q + 1, Nat.pow_lt_pow_right (by decide) (Nat.lt_succ_self _), up q unit, ?_⟩
    have moved := rational_two_pow neg (2 ^ m.t) 1 q
    rwa [pow_one, ← pow_succ] at moved

theorem Chosen.le_two_pow (h : Chosen mode neg x n) (small : x < 2 ^ (m.t + 1)) : n ≤ 2 ^ (m.t + 1) := by
  obtain ⟨lo, low, -, choice⟩ := h
  have : lo < 2 ^ (m.t + 1) := by exact_mod_cast lt_of_le_of_lt low small
  rcases choice with ⟨-, rfl⟩ | ⟨-, rfl⟩ <;> omega

/-! ### The two signs -/

/-- The mode that rounds `-r` to `-y` where the mode rounds `r` to `y`. -/
def RoundMode.flip : RoundMode → RoundMode
  | .rdn => .rup
  | .rup => .rdn
  | .rne => .rne
  | .rtz => .rtz
  | .rmm => .rmm

theorem goesUp_true_iff {lo : Nat} : GoesUp mode true lo x ↔ GoesUp mode.flip false lo x := by
  cases mode <;> simp [GoesUp, RoundMode.flip]

theorem Chosen.flip (h : Chosen mode true x n) : Chosen mode.flip false x n := by
  unfold Chosen at *
  simpa only [goesUp_true_iff] using h

theorem abs_neg_sub (a b : ℚ) : |-a - b| = |a - -b| := by
  rw [← abs_neg, neg_sub, sub_neg_eq_add, sub_neg_eq_add, add_comm]

theorem RoundsTo.negated (h : RoundsTo m units mode.flip r y) : RoundsTo m units mode (-r) (-y) := by
  obtain ⟨grid, best⟩ := h
  refine ⟨grid.negated, ?_⟩
  cases mode with
  | rtz =>
    obtain ⟨le, sign, best⟩ := best
    exact ⟨by rwa [abs_neg, abs_neg], by linarith, fun z hz le => by
      rw [abs_neg] at *
      exact best z hz le⟩
  | rdn =>
    obtain ⟨le, best⟩ := best
    exact ⟨neg_le_neg le, fun z hz le => by linarith [best (-z) hz.negated (by linarith)]⟩
  | rup =>
    obtain ⟨le, best⟩ := best
    exact ⟨neg_le_neg le, fun z hz le => by linarith [best (-z) hz.negated (by linarith)]⟩
  | rmm =>
    intro z hz
    have best := best (-z) hz.negated
    rw [abs_neg_sub z, abs_neg] at best
    rwa [abs_neg_sub y, neg_neg, abs_neg]
  | rne =>
    intro z hz
    have best := best (-z) hz.negated
    rw [abs_neg_sub z] at best
    rw [abs_neg_sub y, neg_neg]
    refine ⟨best.1, fun ne tie => ?_⟩
    obtain ⟨neg, k, q, unit, hy, adjacent⟩ := best.2 (fun eq => ne (by rw [← eq, neg_neg])) tie
    refine ⟨!neg, k, q, unit, by rw [rational_neg, hy], ?_⟩
    rw [rational_neg, rational_neg]
    exact adjacent.imp (fun above => by rw [← above, neg_neg]) fun ⟨pos, below⟩ => ⟨pos, by rw [← below, neg_neg]⟩

/-! ### The neighbour that the mode chooses -/

/-- `y` is an even multiple of a unit and `z` an odd one beside it. -/
def EvenBeside (units : Int → Prop) (y z : ℚ) : Prop :=
  ∃ neg k q, units q ∧ y = rational neg (2 * k) q ∧
    (z = rational neg (2 * k + 1) q ∨ 0 < k ∧ z = rational neg (2 * k - 1) q)

/-- Of two neighbouring multiples of a unit, the one that is an even multiple is so beside the other. -/
theorem evenBeside_lower {lo : Nat} (unit : units q) (even : lo % 2 = 0) :
    EvenBeside units (lo * 2 ^ q) (lo * 2 ^ q + 2 ^ q) := by
  refine ⟨false, lo / 2, q, unit, ?_, .inl ?_⟩
  · rw [rational_eq, show 2 * (lo / 2) = lo by omega]
    rfl
  · rw [rational_eq, show 2 * (lo / 2) + 1 = lo + 1 by omega, if_neg Bool.false_ne_true]
    push_cast
    ring

theorem evenBeside_upper {lo : Nat} (unit : units q) (odd : lo % 2 = 1) :
    EvenBeside units (lo * 2 ^ q + 2 ^ q) (lo * 2 ^ q) := by
  refine ⟨false, (lo + 1) / 2, q, unit, ?_, .inr ⟨by omega, ?_⟩⟩
  · rw [rational_eq, show 2 * ((lo + 1) / 2) = lo + 1 by omega, if_neg Bool.false_ne_true]
    push_cast
    ring
  · rw [rational_eq, show 2 * ((lo + 1) / 2) - 1 = lo by omega]
    rfl

section
variable {lower u : ℚ}

/-- A number of the grid is on one side of `r`, beyond the neighbour there. -/
theorem abs_sub_of_near (near : z ≤ lower ∨ lower + u ≤ z) (low : lower ≤ r) (high : r < lower + u) :
    z ≤ lower ∧ |z - r| = r - z ∨ lower + u ≤ z ∧ |z - r| = z - r := by
  rcases near with below | above
  · exact .inl ⟨below, by rw [abs_sub_comm, abs_of_nonneg (by linarith)]⟩
  · exact .inr ⟨above, abs_of_nonneg (by linarith)⟩

/-- A number between two neighbours of the grid, in the lower half, rounds to the lower one. -/
theorem roundsTo_lower (grid : OnGrid m units lower) (nonneg : 0 ≤ lower) (low : lower ≤ r) (high : r < lower + u)
    (near : ∀ z, OnGrid m units z → z ≤ lower ∨ lower + u ≤ z) (up : mode = .rup → r = lower)
    (away : mode = .rmm → 2 * r < 2 * lower + u) (nearest : mode = .rne → 2 * r ≤ 2 * lower + u)
    (even : mode = .rne → 2 * r = 2 * lower + u → EvenBeside units lower (lower + u)) : RoundsTo m units mode r lower := by
  have atLower : |lower - r| = r - lower := by rw [abs_sub_comm, abs_of_nonneg (by linarith)]
  refine ⟨grid, ?_⟩
  cases mode with
  | rtz =>
    rw [abs_of_nonneg nonneg, abs_of_nonneg (nonneg.trans low)]
    refine ⟨low, mul_nonneg nonneg (nonneg.trans low), fun z hz le => abs_le.2 ?_⟩
    obtain ⟨left, right⟩ := abs_le.1 le
    constructor
    · rcases near (-z) hz.negated with below | above <;> linarith
    · rcases near z hz with below | above <;> linarith
  | rdn => exact ⟨low, fun z hz le => (near z hz).resolve_right fun above => by linarith⟩
  | rup =>
    rw [up rfl]
    exact ⟨le_refl _, fun z _ le => le⟩
  | rmm =>
    intro z hz
    have away := away rfl
    rw [atLower, abs_of_nonneg nonneg]
    rcases abs_sub_of_near (near z hz) low high with ⟨below, size⟩ | ⟨above, size⟩ <;> rw [size]
    · exact ⟨by linarith, fun tie => by rw [show z = lower by linarith, abs_of_nonneg nonneg]⟩
    · exact ⟨by linarith, fun tie => by linarith⟩
  | rne =>
    intro z hz
    have nearest := nearest rfl
    rw [atLower]
    rcases abs_sub_of_near (near z hz) low high with ⟨below, size⟩ | ⟨above, size⟩ <;> rw [size]
    · exact ⟨by linarith, fun ne tie => absurd (by linarith) ne⟩
    · refine ⟨by linarith, fun _ tie => ?_⟩
      obtain rfl : z = lower + u := by linarith
      exact even rfl (by linarith)

/-- A number between two neighbours of the grid, in the upper half, rounds to the upper one. -/
theorem roundsTo_upper (grid : OnGrid m units (lower + u)) (nonneg : 0 ≤ lower) (low : lower ≤ r) (high : r < lower + u)
    (near : ∀ z, OnGrid m units z → z ≤ lower ∨ lower + u ≤ z) (toward : mode ≠ .rtz ∧ mode ≠ .rdn)
    (up : mode = .rup → lower < r) (nearest : mode = .rne ∨ mode = .rmm → 2 * lower + u ≤ 2 * r)
    (even : mode = .rne → 2 * r = 2 * lower + u → EvenBeside units (lower + u) lower) :
    RoundsTo m units mode r (lower + u) := by
  have atUpper : |lower + u - r| = lower + u - r := abs_of_nonneg (by linarith)
  refine ⟨grid, ?_⟩
  cases mode with
  | rtz => exact absurd rfl toward.1
  | rdn => exact absurd rfl toward.2
  | rup =>
    have above := up rfl
    exact ⟨high.le, fun z hz le => (near z hz).resolve_left fun below => by linarith⟩
  | rmm =>
    intro z hz
    have nearest := nearest (.inr rfl)
    rw [atUpper, abs_of_nonneg (show 0 ≤ lower + u by linarith)]
    rcases abs_sub_of_near (near z hz) low high with ⟨below, size⟩ | ⟨above, size⟩ <;> rw [size]
    · exact ⟨by linarith, fun tie => abs_le.2 ⟨by linarith, by linarith⟩⟩
    · exact ⟨by linarith, fun tie => abs_le.2 ⟨by linarith, by linarith⟩⟩
  | rne =>
    intro z hz
    have nearest := nearest (.inl rfl)
    rw [atUpper]
    rcases abs_sub_of_near (near z hz) low high with ⟨below, size⟩ | ⟨above, size⟩ <;> rw [size]
    · refine ⟨by linarith, fun _ tie => ?_⟩
      obtain rfl : z = lower := by linarith
      exact even rfl (by linarith)
    · exact ⟨by linarith, fun ne tie => absurd (by linarith) ne⟩

end

/-- The choice for a magnitude, on the grid. -/
theorem Chosen.roundsTo_false (up : ∀ q, units q → units (q + 1)) (unit : UnitAt m units q x)
    (h : Chosen mode false x n) : RoundsTo m units mode (x * 2 ^ q) (n * 2 ^ q) := by
  have grid : OnGrid m units (n * 2 ^ q) := by
    have := onGrid_rational up unit.1 (h.le_two_pow unit.2.1) false
    rwa [rational_eq] at this
  obtain ⟨lo, low, high, choice⟩ := h
  have pos : (0 : ℚ) < 2 ^ q := zpow_pos two_pos q
  have nonneg : (0 : ℚ) ≤ lo * 2 ^ q := by positivity
  have near (z : ℚ) (hz : OnGrid m units z) : z ≤ lo * 2 ^ q ∨ lo * 2 ^ q + 2 ^ q ≤ z := by
    have := hz.le_or_ge unit high
    rwa [add_mul, one_mul] at this
  have low' : (lo : ℚ) * 2 ^ q ≤ x * 2 ^ q := mul_le_mul_of_nonneg_right low pos.le
  have high' : x * 2 ^ q < lo * 2 ^ q + 2 ^ q := by
    have := mul_lt_mul_of_pos_right high pos
    linarith
  have half : 2 * (lo * 2 ^ q) + 2 ^ q = (2 * lo + 1 : ℚ) * 2 ^ q := by ring
  have twice : 2 * (x * 2 ^ q) = 2 * x * 2 ^ q := by ring
  have half_le : 2 * (lo * 2 ^ q) + 2 ^ q ≤ 2 * (x * 2 ^ q) ↔ (2 * lo + 1 : ℚ) ≤ 2 * x := by
    rw [half, twice, mul_le_mul_iff_left₀ pos]
  have le_half : 2 * (x * 2 ^ q) ≤ 2 * (lo * 2 ^ q) + 2 ^ q ↔ 2 * x ≤ (2 * lo + 1 : ℚ) := by
    rw [half, twice, mul_le_mul_iff_left₀ pos]
  have half_eq (tie : 2 * (x * 2 ^ q) = 2 * (lo * 2 ^ q) + 2 ^ q) : 2 * x = (2 * lo + 1 : ℚ) :=
    le_antisymm (le_half.1 tie.le) (half_le.1 tie.ge)
  rcases choice with ⟨goesUp, rfl⟩ | ⟨stays, rfl⟩
  · have upper : ((lo + 1 : Nat) : ℚ) * 2 ^ q = lo * 2 ^ q + 2 ^ q := by
      push_cast
      ring
    rw [upper] at grid ⊢
    refine roundsTo_upper grid nonneg low' high' near ⟨?_, ?_⟩ ?_ ?_ ?_
    · rintro rfl
      exact goesUp
    · rintro rfl
      exact Bool.false_ne_true goesUp.1
    · rintro rfl
      exact mul_lt_mul_of_pos_right (lt_of_le_of_ne low goesUp.2.symm) pos
    · rintro (rfl | rfl)
      · exact half_le.2 (goesUp.elim le_of_lt fun tie => tie.1.ge)
      · exact half_le.2 goesUp
    · rintro rfl tie
      exact evenBeside_upper unit.1 (goesUp.resolve_left (half_eq tie).not_gt).2
  · refine roundsTo_lower grid nonneg low' high' near ?_ ?_ ?_ ?_
    · rintro rfl
      rw [not_not.1 fun ne : x ≠ n => stays ⟨rfl, ne⟩]
    · rintro rfl
      exact not_le.1 (mt half_le.1 stays)
    · rintro rfl
      exact le_half.2 (not_lt.1 fun above => stays (.inl above))
    · rintro rfl tie
      have notOdd : n % 2 ≠ 1 := fun odd => stays (.inr ⟨half_eq tie, odd⟩)
      exact evenBeside_lower unit.1 (by omega)

/-- The choice, on the grid, for either sign. -/
theorem Chosen.roundsTo (up : ∀ q, units q → units (q + 1)) (unit : UnitAt m units q x) (h : Chosen mode neg x n) :
    RoundsTo m units mode (negatedIf neg (x * 2 ^ q)) (rational neg n q) := by
  rw [rational_eq_negatedIf]
  cases neg with
  | false => exact h.roundsTo_false up unit
  | true => exact (h.flip.roundsTo_false up unit).negated

end Sys2Proof.Machine
end

section
/-! PROOFS. Rounding to the neighbour is a function (45_rvf.md, R344 a), and it sees of a number only its place among the halves
of the unit. -/

namespace Sys2Proof.Machine

open Sys2Proof

/-! ### Rounding is a function, but for the sign of zero -/

section
variable {m : Fmt} {units : Int → Prop} {mode : RoundMode} {r y z : ℚ}

/-- An even multiple of a unit is not an odd multiple of another while an odd one of the first is an even one of the other. -/
theorem parity_clash {neg neg' : Bool} {k' j : Nat} {q q' : Int} (le : q ≤ q') (odd : j % 2 = 1)
    (h : rational neg j q = rational neg' (2 * k') q') : False := by
  have unit : (2 : ℚ) ^ q ≠ 0 := zpow_ne_zero _ two_ne_zero
  rw [rational_eq, rational_eq, zpow_split le] at h
  have sizes : (j : ℚ) * 2 ^ q = ((2 * k' : Nat) : ℚ) * (2 ^ (q' - q).toNat * 2 ^ q) := by
    have nonneg : (0 : ℚ) ≤ (j : ℚ) * 2 ^ q := by positivity
    have nonneg' : (0 : ℚ) ≤ ((2 * k' : Nat) : ℚ) * (2 ^ (q' - q).toNat * 2 ^ q) := by positivity
    cases neg <;> cases neg' <;> simp only [Bool.false_eq_true, if_false, if_true] at h <;> linarith
  rw [← mul_assoc, mul_left_inj' unit] at sizes
  have : j = 2 * k' * 2 ^ (q' - q).toNat := by exact_mod_cast sizes
  rw [this, Nat.mul_assoc, Nat.mul_mod_right] at odd
  cases odd

theorem RoundsTo.abs_unique (hy : RoundsTo m units mode r y) (hz : RoundsTo m units mode r z) : |y| = |z| := by
  obtain ⟨gridY, bestY⟩ := hy
  obtain ⟨gridZ, bestZ⟩ := hz
  cases mode with
  | rtz => exact le_antisymm (bestZ.2.2 y gridY bestY.1) (bestY.2.2 z gridZ bestZ.1)
  | rdn => rw [le_antisymm (bestZ.2 y gridY bestY.1) (bestY.2 z gridZ bestZ.1)]
  | rup => rw [le_antisymm (bestY.2 z gridZ bestZ.1) (bestZ.2 y gridY bestY.1)]
  | rmm =>
    have tie : |y - r| = |z - r| := le_antisymm (bestY z gridZ).1 (bestZ y gridY).1
    exact le_antisymm ((bestZ y gridY).2 tie.symm) ((bestY z gridZ).2 tie)
  | rne =>
    have tie : |y - r| = |z - r| := le_antisymm (bestY z gridZ).1 (bestZ y gridY).1
    by_contra ne
    have other : z ≠ y := fun eq => ne (by rw [eq])
    obtain ⟨neg, k, q, -, hy, hz⟩ := (bestY z gridZ).2 other tie
    obtain ⟨neg', k', q', -, hz', hy'⟩ := (bestZ y gridY).2 other.symm tie.symm
    obtain ⟨j, oddZ, eqZ⟩ : ∃ j, j % 2 = 1 ∧ z = rational neg j q := by
      rcases hz with h | ⟨pos, h⟩
      · exact ⟨_, by omega, h⟩
      · exact ⟨_, by omega, h⟩
    obtain ⟨j', oddY, eqY⟩ : ∃ j, j % 2 = 1 ∧ y = rational neg' j q' := by
      rcases hy' with h | ⟨pos, h⟩
      · exact ⟨_, by omega, h⟩
      · exact ⟨_, by omega, h⟩
    rcases le_total q q' with le | le
    · exact parity_clash le oddZ (eqZ.symm.trans hz')
    · exact parity_clash le oddY (eqY.symm.trans hy)

/-- A number of the grid rounds to itself. -/
theorem RoundsTo.eq_of_onGrid (hy : RoundsTo m units mode r y) (grid : OnGrid m units r) : y = r := by
  obtain ⟨gridY, best⟩ := hy
  cases mode with
  | rtz =>
    obtain ⟨le, sign, best⟩ := best
    have size := le_antisymm le (best r grid (le_refl _))
    rcases abs_eq_abs.1 size with eq | opposite
    · exact eq
    · have zero : r = 0 := by
        rw [opposite] at sign
        nlinarith
      rw [opposite, zero, neg_zero]
  | rdn => exact le_antisymm best.1 (best.2 r grid (le_refl _))
  | rup => exact le_antisymm (best.2 r grid (le_refl _)) best.1
  | rmm | rne =>
    have closest := (best r grid).1
    rw [sub_self, abs_zero, abs_nonpos_iff, sub_eq_zero] at closest
    exact closest

end

/-! ### Numbers that no half of a unit tells apart -/

/-- The two lie at the same place among the halves of integers. -/
def SameHalves (x x' : ℚ) : Prop := ∀ j : Int, ((j : ℚ) ≤ 2 * x ↔ (j : ℚ) ≤ 2 * x') ∧ (2 * x ≤ j ↔ 2 * x' ≤ j)

section
variable {mode : RoundMode} {neg : Bool} {x x' : ℚ} {n : Nat}

theorem SameHalves.refl (x : ℚ) : SameHalves x x := fun _ => ⟨Iff.rfl, Iff.rfl⟩

theorem SameHalves.symm (h : SameHalves x x') : SameHalves x' x := fun j => ⟨(h j).1.symm, (h j).2.symm⟩

theorem SameHalves.le_iff (h : SameHalves x x') (n : Nat) : (n : ℚ) ≤ x ↔ (n : ℚ) ≤ x' := by
  have at2 := (h (2 * n)).1
  push_cast at at2
  constructor <;> intro le <;> [have := at2.1 (by linarith); have := at2.2 (by linarith)] <;> linarith

theorem SameHalves.ge_iff (h : SameHalves x x') (n : Nat) : x ≤ n ↔ x' ≤ n := by
  have at2 := (h (2 * n)).2
  push_cast at at2
  constructor <;> intro le <;> [have := at2.1 (by linarith); have := at2.2 (by linarith)] <;> linarith

theorem SameHalves.eq_iff (h : SameHalves x x') (n : Nat) : x = n ↔ x' = n := by
  rw [le_antisymm_iff, le_antisymm_iff, h.le_iff, h.ge_iff]

theorem SameHalves.lt_iff (h : SameHalves x x') (n : Nat) : x < n ↔ x' < n := by
  rw [← not_le, ← not_le, h.le_iff]

theorem SameHalves.goesUp_iff (h : SameHalves x x') (lo : Nat) : GoesUp mode neg lo x ↔ GoesUp mode neg lo x' := by
  have half := h (2 * lo + 1)
  push_cast at half
  cases mode with
  | rne =>
    have above : (2 * lo + 1 : ℚ) < 2 * x ↔ (2 * lo + 1 : ℚ) < 2 * x' := by rw [← not_le, ← not_le, half.2]
    have tie : 2 * x = (2 * lo + 1 : ℚ) ↔ 2 * x' = (2 * lo + 1 : ℚ) := by
      rw [le_antisymm_iff, half.1, half.2, ← le_antisymm_iff]
    exact or_congr above (and_congr_left' tie)
  | rmm => exact half.1
  | rtz => exact Iff.rfl
  | rdn => exact and_congr_right fun _ => not_congr (h.eq_iff lo)
  | rup => exact and_congr_right fun _ => not_congr (h.eq_iff lo)

theorem Chosen.congr (h : Chosen mode neg x n) (same : SameHalves x x') : Chosen mode neg x' n := by
  obtain ⟨lo, low, high, choice⟩ := h
  have high' : x' < (lo + 1 : Nat) := (same.lt_iff _).1 (by exact_mod_cast high)
  refine ⟨lo, (same.le_iff lo).1 low, by exact_mod_cast high', ?_⟩
  rwa [← same.goesUp_iff]

theorem Chosen.le_of_le (h : Chosen mode neg x n) {j : Nat} (le : (j : ℚ) ≤ x) : j ≤ n := by
  obtain ⟨lo, low, high, choice⟩ := h
  have : j < lo + 1 := by exact_mod_cast lt_of_le_of_lt le high
  rcases choice with ⟨-, rfl⟩ | ⟨-, rfl⟩ <;> omega

end

end Sys2Proof.Machine
end

section
/-! PROOFS. The parts of `fpRound` (45_rvf.md, R344): the neighbour it finds, and what it takes for exact and for tiny. -/

namespace Sys2Proof.Machine

open Sys2Proof

variable {m : Fmt} {mode : RoundMode} {neg : Bool} {k : Nat} {q q' : Int} {X : ℚ}

/-! ### The parts of `fpRound` -/

/-- The unit of a number rounded to `p` bits with unbounded exponent. -/
def freeUnit (m : Fmt) (k : Nat) (q : Int) : Int := (Nat.log2 k : Int) + q - m.t

/-- The unit of the format for a number. -/
def formatUnit (m : Fmt) (k : Nat) (q : Int) : Int := max (freeUnit m k q) m.qmin

theorem freeUnit_le_formatUnit (m : Fmt) (k : Nat) (q : Int) : freeUnit m k q ≤ formatUnit m k q := le_max_left _ _

/-- A number in multiples of a unit, rounded. -/
def roundAt (mode : RoundMode) (neg : Bool) (k : Nat) (q q' : Int) : Nat :=
  roundShift mode neg (k * 2 ^ (q - q').toNat) (q' - q).toNat

/-- Whether nothing of a number is lost in multiples of a unit. -/
def exactAt (k : Nat) (q q' : Int) : Bool := k * 2 ^ (q - q').toNat % 2 ^ (q' - q).toNat == 0

/-- What `fpRound` answers to the question of tininess. -/
def tinyAt (m : Fmt) (mode : RoundMode) (neg : Bool) (k : Nat) (q : Int) : Bool :=
  decide ((Nat.log2 k : Int) + q < m.qmin + m.t) &&
    !(decide ((Nat.log2 k : Int) + q + 1 = m.qmin + m.t) && roundAt mode neg k q (freeUnit m k q) == 2 ^ (m.t + 1))

theorem fpRound_eq (m : Fmt) (mode : RoundMode) (neg : Bool) (k : Nat) (q : Int) :
    fpRound m mode neg k q =
      if m.qmax < formatUnit m k q ∨
          m.qmax = formatUnit m k q ∧ roundAt mode neg k q (formatUnit m k q) = 2 ^ (m.t + 1) then
        (fpOverflow m mode neg, flagOF ||| flagNX)
      else (fpPack m neg (roundAt mode neg k q (formatUnit m k q)) (formatUnit m k q),
        if exactAt k q (formatUnit m k q) then 0 else if tinyAt m mode neg k q then flagUF ||| flagNX else flagNX) := rfl

/-- `X` lies as `k * 2 ^ q` does among the halves of every unit that leaves it at most `p` bits. -/
def RoundsLike (m : Fmt) (k : Nat) (q : Int) (X : ℚ) : Prop :=
  ∀ q', freeUnit m k q ≤ q' → SameHalves ((k : ℚ) * 2 ^ (q - q')) (X * 2 ^ (-q'))

theorem roundsLike_self (m : Fmt) (k : Nat) (q : Int) : RoundsLike m k q (k * 2 ^ q) := by
  intro q' _
  rw [mul_assoc, ← zpow_add₀ two_ne_zero, ← sub_eq_add_neg]
  exact SameHalves.refl _

theorem roundAt_chosen (mode : RoundMode) (neg : Bool) (k : Nat) (q q' : Int) :
    Chosen mode neg ((k : ℚ) * 2 ^ (q - q')) (roundAt mode neg k q q') := by
  have chosen := roundShift_chosen mode neg (k * 2 ^ (q - q').toNat) (q' - q).toNat
  rw [← neg_sub q q', scaled_eq_div] at chosen
  rw [roundAt, ← neg_sub q q']
  exact chosen

theorem exactAt_iff (k : Nat) (q q' : Int) : exactAt k q q' = true ↔ ∃ j : Nat, (k : ℚ) * 2 ^ (q - q') = j := by
  rw [exactAt, beq_iff_eq, ← div_two_pow_integer_iff, ← neg_sub q q', scaled_eq_div]

theorem roundAt_chosen_of_like (like : RoundsLike m k q X) (le : freeUnit m k q ≤ q') (mode : RoundMode) (neg : Bool) :
    Chosen mode neg (X * 2 ^ (-q')) (roundAt mode neg k q q') :=
  (roundAt_chosen mode neg k q q').congr (like q' le)

theorem mul_zpow_neg_cancel (X : ℚ) (q : Int) : X * 2 ^ (-q) * 2 ^ q = X := by
  rw [mul_assoc, ← zpow_add₀ two_ne_zero, neg_add_cancel, zpow_zero, mul_one]

/-! ### How many bits -/

/-- A number has `p` bits above its free unit. -/
theorem free_bits (pos : 0 < k) : (2 : ℚ) ^ m.t ≤ k * 2 ^ (q - freeUnit m k q) ∧
    (k : ℚ) * 2 ^ (q - freeUnit m k q) < 2 ^ (m.t + 1) := by
  have exponent : q - freeUnit m k q = m.t - (Nat.log2 k : Int) := by
    rw [freeUnit]
    ring
  have low : ((2 ^ Nat.log2 k : Nat) : ℚ) ≤ k := by exact_mod_cast Nat.log2_self_le pos.ne'
  have high : (k : ℚ) < ((2 ^ (Nat.log2 k + 1) : Nat) : ℚ) := by exact_mod_cast Nat.lt_log2_self
  have unit : (0 : ℚ) < 2 ^ Nat.log2 k := by positivity
  push_cast at low high
  rw [exponent, zpow_sub₀ two_ne_zero, zpow_natCast, zpow_natCast, mul_div_assoc', le_div_iff₀ unit, div_lt_iff₀ unit]
  rw [pow_succ] at high ⊢
  have top : (0 : ℚ) < 2 ^ m.t := by positivity
  exact ⟨by nlinarith, by nlinarith⟩

theorem bits_lt (pos : 0 < k) (like : RoundsLike m k q X) (le : freeUnit m k q ≤ q') : X * 2 ^ (-q') < 2 ^ (m.t + 1) := by
  have fine := (free_bits (m := m) (q := q) pos).2
  have scale : (2 : ℚ) ^ (q - q') ≤ 2 ^ (q - freeUnit m k q) := zpow_le_zpow_right₀ one_le_two (by omega)
  have coarse : (k : ℚ) * 2 ^ (q - q') < (2 ^ (m.t + 1) : Nat) := by
    push_cast
    exact lt_of_le_of_lt (mul_le_mul_of_nonneg_left scale (Nat.cast_nonneg k)) fine
  exact_mod_cast ((like q' le).lt_iff _).1 coarse

theorem le_bits (pos : 0 < k) (like : RoundsLike m k q X) : (2 ^ m.t : Nat) ≤ X * 2 ^ (-freeUnit m k q) :=
  ((like _ (le_refl _)).le_iff _).1 (by exact_mod_cast (free_bits pos).1)

theorem unitAt_free (pos : 0 < k) (like : RoundsLike m k q X) :
    UnitAt m (fun _ => True) (freeUnit m k q) (X * 2 ^ (-freeUnit m k q)) :=
  ⟨trivial, bits_lt pos like (le_refl _), .inl (by exact_mod_cast le_bits pos like)⟩

theorem unitAt_format (pos : 0 < k) (like : RoundsLike m k q X) :
    UnitAt m m.units (formatUnit m k q) (X * 2 ^ (-formatUnit m k q)) := by
  refine ⟨le_max_right _ _, bits_lt pos like (freeUnit_le_formatUnit m k q), ?_⟩
  rcases max_choice (freeUnit m k q) m.qmin with free | least
  · rw [formatUnit, free]
    exact .inl (by exact_mod_cast le_bits pos like)
  · rw [formatUnit, least]
    exact .inr fun _ inUnits => inUnits

theorem roundAt_le (pos : 0 < k) (le : freeUnit m k q ≤ q') (mode : RoundMode) (neg : Bool) :
    roundAt mode neg k q q' ≤ 2 ^ (m.t + 1) :=
  (roundAt_chosen_of_like (roundsLike_self m k q) le mode neg).le_two_pow (bits_lt pos (roundsLike_self m k q) le)

theorem le_roundAt_free (pos : 0 < k) (mode : RoundMode) (neg : Bool) :
    2 ^ m.t ≤ roundAt mode neg k q (freeUnit m k q) :=
  (roundAt_chosen mode neg k q _).le_of_le (by exact_mod_cast (free_bits pos).1)

/-! ### The neighbour -/

theorem roundAt_roundsTo (pos : 0 < k) (like : RoundsLike m k q X) :
    RoundsTo m m.units mode (negatedIf neg X) (rational neg (roundAt mode neg k q (formatUnit m k q)) (formatUnit m k q)) := by
  have chosen := roundAt_chosen_of_like like (freeUnit_le_formatUnit m k q) mode neg
  have rounds := chosen.roundsTo (units := m.units) (fun q unit => Int.le_add_one unit) (unitAt_format pos like)
  rwa [mul_zpow_neg_cancel] at rounds

theorem roundAt_roundsTo_free (pos : 0 < k) (like : RoundsLike m k q X) :
    RoundsTo m (fun _ => True) mode (negatedIf neg X) (rational neg (roundAt mode neg k q (freeUnit m k q)) (freeUnit m k q)) := by
  have chosen := roundAt_chosen_of_like like (le_refl _) mode neg
  have rounds := chosen.roundsTo (units := fun _ => True) (fun _ _ => trivial) (unitAt_free pos like)
  rwa [mul_zpow_neg_cancel] at rounds

theorem abs_rational (neg : Bool) (k : Nat) (q : Int) : |rational neg k q| = k * 2 ^ q := by
  have nonneg : (0 : ℚ) ≤ k * 2 ^ q := by positivity
  rw [rational_eq]
  split
  · rw [abs_neg, abs_of_nonneg nonneg]
  · exact abs_of_nonneg nonneg

/-- Nothing is lost exactly when the neighbour is the number itself. -/
theorem exactAt_iff_of_like (like : RoundsLike m k q X) (le : freeUnit m k q ≤ q') (mode : RoundMode) :
    exactAt k q q' = true ↔ rational neg (roundAt mode neg k q q') q' = negatedIf neg X := by
  have unit : (2 : ℚ) ^ q' ≠ 0 := zpow_ne_zero _ two_ne_zero
  have same : rational neg (roundAt mode neg k q q') q' = negatedIf neg X ↔
      (roundAt mode neg k q q' : ℚ) = X * 2 ^ (-q') := by
    rw [← mul_left_inj' unit (b := X * 2 ^ (-q')), mul_zpow_neg_cancel, rational_eq_negatedIf]
    cases neg with
    | false => rfl
    | true => exact neg_inj
  rw [same, (roundAt_chosen_of_like like le mode neg).exact_iff, exactAt_iff]
  exact exists_congr fun j => (like q' le).eq_iff j

/-- Tininess is what `fpRound` takes for it. -/
theorem tinyAt_iff (pos : 0 < k) (like : RoundsLike m k q X) :
    tinyAt m mode neg k q = true ↔ Tiny m mode (negatedIf neg X) := by
  have rounds := roundAt_roundsTo_free (mode := mode) (neg := neg) pos like
  have low := le_roundAt_free (m := m) (q := q) pos mode neg
  have high := roundAt_le (m := m) (q := q) pos (le_refl _) mode neg
  have nonzero : negatedIf neg X ≠ 0 := by
    have bits := le_bits pos like
    have : X ≠ 0 := by
      rintro rfl
      rw [zero_mul] at bits
      have : (0 : ℚ) < (2 ^ m.t : Nat) := by positivity
      linarith
    cases neg <;> simpa [negatedIf] using this
  have tiny : Tiny m mode (negatedIf neg X) ↔
      (roundAt mode neg k q (freeUnit m k q) : ℚ) * 2 ^ freeUnit m k q < 2 ^ (m.qmin + m.t) := by
    rw [← abs_rational neg]
    exact ⟨fun ⟨_, z, hz, less⟩ => rounds.abs_unique hz ▸ less, fun less => ⟨nonzero, _, rounds, less⟩⟩
  have unit : freeUnit m k q = (Nat.log2 k + q) - m.t := rfl
  rw [tiny, tinyAt, unit]
  rw [unit] at low high
  generalize roundAt mode neg k q (↑k.log2 + q - ↑m.t) = n at *
  generalize (k.log2 : Int) + q = e at *
  have scale : (n : ℚ) * 2 ^ (e - m.t) < 2 ^ (m.qmin + m.t) ↔ (n : ℚ) < 2 ^ m.t * 2 ^ (m.qmin + m.t - e) := by
    have two : (0 : ℚ) < 2 ^ (e - m.t) := by positivity
    have moved : (2 : ℚ) ^ (m.qmin + m.t) = 2 ^ m.t * 2 ^ (m.qmin + m.t - e) * 2 ^ (e - m.t) := by
      rw [← zpow_natCast, ← zpow_add₀ two_ne_zero, ← zpow_add₀ two_ne_zero]
      ring_nf
    rw [moved, mul_lt_mul_iff_left₀ two]
  have lowQ : (2 : ℚ) ^ m.t ≤ n := by exact_mod_cast low
  have highQ : (n : ℚ) ≤ 2 ^ m.t * 2 := by rw [← pow_succ]; exact_mod_cast high
  have one : (0 : ℚ) < 2 ^ m.t := by positivity
  rw [scale, Bool.and_eq_true, Bool.not_eq_true', Bool.and_eq_false_iff, decide_eq_true_iff, decide_eq_false_iff_not,
    beq_eq_false_iff_ne]
  rcases lt_trichotomy (e + 1) (m.qmin + m.t) with far | next | near
  · have : (2 : ℚ) ^ (2 : Int) ≤ 2 ^ (m.qmin + m.t - e) := zpow_le_zpow_right₀ one_le_two (by omega)
    have less : (n : ℚ) < 2 ^ m.t * 2 ^ (m.qmin + m.t - e) := by
      norm_num at this
      nlinarith
    simp only [less, iff_true]
    exact ⟨by omega, .inl (by omega)⟩
  · rw [show m.qmin + m.t - e = 1 by omega, zpow_one, ← pow_succ]
    have : (n : ℚ) < 2 ^ (m.t + 1) ↔ n < 2 ^ (m.t + 1) := by exact_mod_cast Iff.rfl
    rw [this]
    omega
  · have : (2 : ℚ) ^ (m.qmin + m.t - e) ≤ 2 ^ (0 : Int) := zpow_le_zpow_right₀ one_le_two (by omega)
    have not : ¬(n : ℚ) < 2 ^ m.t * 2 ^ (m.qmin + m.t - e) := by
      rw [zpow_zero] at this
      nlinarith
    simp only [not, iff_false]
    omega

end Sys2Proof.Machine
end

section
/-! PROOFS. `fpRound` is correct (45_rvf.md, R344): the pattern of the neighbour, its flags, and the result of an overflow. -/

namespace Sys2Proof.Machine

open Sys2Proof

variable {m : Fmt} {mode : RoundMode} {neg : Bool} {k : Nat} {q : Int} {X : ℚ}

/-! ### The pattern of a number -/

theorem top_lt_signWeight (m : Fmt) : m.top < m.signWeight := by
  have w := Nat.two_pow_pos m.w
  rw [Fmt.top, Fmt.signWeight, pow_add]
  exact Nat.mul_lt_mul_of_pos_right (by omega) (Nat.two_pow_pos _)

theorem fpIndex_zero_add (neg : Bool) {n : Nat} (small : n < m.signWeight) : fpIndex m (m.zero neg + n) = n := by
  cases neg with
  | false => simp [fpIndex, Fmt.zero, Nat.mod_eq_of_lt small]
  | true => simp [fpIndex, Fmt.zero, Nat.mod_eq_of_lt small]

theorem fpNeg_zero_add (neg : Bool) {n : Nat} (small : n < m.signWeight) : fpNeg m (m.zero neg + n) = neg := by
  have pos : 0 < m.signWeight := Nat.two_pow_pos _
  cases neg with
  | false => simp [fpNeg, Fmt.zero, Nat.div_eq_of_lt small]
  | true => simp [fpNeg, Fmt.zero, Nat.add_div_left _ pos, Nat.div_eq_of_lt small]

theorem Fmt.Standard.two_bias (h : m.Standard) : 2 * m.bias = 2 ^ m.w - 2 := by
  obtain ⟨w, eq⟩ := Nat.exists_eq_add_of_le' h.w
  rw [Fmt.bias, eq]
  simp only [Nat.add_succ_sub_one, pow_succ]
  ring

theorem Fmt.Standard.qmin_lt_qmax (h : m.Standard) : m.qmin < m.qmax := by
  have two := h.two_bias
  have big : (2 : Int) ^ 2 ≤ 2 ^ m.w := pow_le_pow_right₀ (by decide) h.w
  rw [Fmt.qmin, Fmt.qmax]
  omega

/-- The place of the number `k * 2 ^ q` of the format. -/
def packIndex (m : Fmt) (k : Nat) (q : Int) : Nat :=
  if k < 2 ^ m.t then k else (q + m.bias + m.t).toNat * 2 ^ m.t + (k - 2 ^ m.t)

theorem fpPack_eq (m : Fmt) (neg : Bool) (k : Nat) (q : Int) : fpPack m neg k q = m.zero neg + packIndex m k q := rfl

/-- A number of the format: at most `p` bits above a unit of the format, with all of them unless the unit is the least, and
not above the largest. -/
structure Fits (m : Fmt) (k : Nat) (q : Int) : Prop where
  least : m.qmin ≤ q
  most : q ≤ m.qmax
  bits : k ≤ 2 ^ (m.t + 1)
  normal : 2 ^ m.t ≤ k ∨ q = m.qmin
  finite : q = m.qmax → k < 2 ^ (m.t + 1)

theorem Fits.packIndex_lt (h : Fits m k q) (standard : m.Standard) : packIndex m k q < m.top := by
  have one := Nat.two_pow_pos m.t
  have two := standard.two_bias
  have big : 2 ^ 2 ≤ 2 ^ m.w := Nat.pow_le_pow_right (by decide) standard.w
  obtain ⟨least, most, bits, -, finite⟩ := h
  rw [Fmt.qmin] at least
  rw [Fmt.qmax] at most finite
  rw [pow_succ] at bits finite
  rw [packIndex, Fmt.top]
  split
  · next small => exact lt_of_lt_of_le small (Nat.le_mul_of_pos_left _ (by omega))
  · next large =>
    have cast : ((2 ^ m.w : Nat) : Int) = 2 ^ m.w := by push_cast; rfl
    rw [← cast] at two
    rcases most.lt_or_eq with less | eq
    · have field : (q + m.bias + m.t).toNat + 2 ≤ 2 ^ m.w - 1 := by omega
      have := Nat.mul_le_mul_right (2 ^ m.t) field
      rw [Nat.add_mul] at this
      omega
    · have field : (q + m.bias + m.t).toNat + 1 ≤ 2 ^ m.w - 1 := by omega
      have := Nat.mul_le_mul_right (2 ^ m.t) field
      rw [Nat.add_mul] at this
      have := finite eq
      omega

theorem Fits.magnitude (h : Fits m k q) : fpMagnitude m (packIndex m k q) = k * 2 ^ (q - m.qmin).toNat := by
  obtain ⟨least, -, bits, normal, -⟩ := h
  rw [pow_succ] at bits
  rw [packIndex]
  split
  · next small =>
    rw [fpMagnitude_of_lt small, normal.resolve_left (by omega), Int.sub_self]
    simp
  · next large =>
    have field : (q + m.bias + m.t).toNat = (q - m.qmin).toNat + 1 := by
      rw [Fmt.qmin] at *
      omega
    rw [field, fpMagnitude_succ_mul_add m _ (by omega), Nat.add_sub_cancel' (by omega)]

/-- The pattern of a number of the format stands for it, with its sign. -/
theorem Fits.fpPack (h : Fits m k q) (standard : m.Standard) (neg : Bool) :
    fpReal m (fpPack m neg k q) = some (rational neg k q) ∧ fpNeg m (fpPack m neg k q) = neg := by
  have below := h.packIndex_lt standard
  have small := below.trans (top_lt_signWeight m)
  have sign := fpNeg_zero_add neg small
  have index := fpIndex_zero_add neg small
  rw [fpPack_eq]
  refine ⟨?_, sign⟩
  rw [fpReal_of_lt (by rwa [index]), sign, index, h.magnitude, rational_two_pow,
    Int.toNat_of_nonneg (Int.sub_nonneg.2 h.least), add_sub_cancel]

/-! ### Overflow -/

/-- A number is above the largest finite one when its unit or its bits are too many. -/
theorem largest_lt_iff (bits : k ≤ 2 ^ (m.t + 1)) (normal : m.qmax < q → 2 ^ m.t ≤ k) :
    m.largest < |rational neg k q| ↔ m.qmax < q ∨ m.qmax = q ∧ k = 2 ^ (m.t + 1) := by
  have one : (0 : ℚ) < 2 ^ m.t := by positivity
  have unit : (0 : ℚ) < 2 ^ m.qmax := by positivity
  have bitsQ : (k : ℚ) ≤ 2 ^ m.t * 2 := by rw [← pow_succ]; exact_mod_cast bits
  have largest : m.largest = (2 ^ m.t * 2 - 1) * 2 ^ m.qmax := by
    rw [Fmt.largest, rational_eq, ← pow_succ]
    have := Nat.two_pow_pos (m.t + 1)
    push_cast [Nat.cast_sub this]
    rfl
  rw [abs_rational, largest]
  rcases lt_trichotomy m.qmax q with above | rfl | below
  · simp only [above, true_or, iff_true]
    have scale : (2 : ℚ) ^ m.qmax * 2 ≤ 2 ^ q := by
      rw [← zpow_add_one₀ two_ne_zero]
      exact zpow_le_zpow_right₀ one_le_two (by omega)
    have low : (2 : ℚ) ^ m.t ≤ k := by exact_mod_cast normal above
    calc (2 ^ m.t * 2 - 1 : ℚ) * 2 ^ m.qmax < 2 ^ m.t * (2 ^ m.qmax * 2) := by linarith
      _ ≤ k * 2 ^ q := mul_le_mul low scale (by positivity) (by positivity)
  · rw [mul_lt_mul_iff_left₀ unit, ← pow_succ, sub_lt_iff_lt_add]
    have : (2 : ℚ) ^ (m.t + 1) < k + 1 ↔ 2 ^ (m.t + 1) < k + 1 := by exact_mod_cast Iff.rfl
    rw [this]
    simp only [lt_irrefl, false_or, true_and]
    omega
  · have scale : (2 : ℚ) ^ q * 2 ≤ 2 ^ m.qmax := by
      rw [← zpow_add_one₀ two_ne_zero]
      exact zpow_le_zpow_right₀ one_le_two (by omega)
    have le : (k : ℚ) * 2 ^ q ≤ 2 ^ m.t * 2 ^ m.qmax := by
      have : (k : ℚ) * 2 ^ q ≤ 2 ^ m.t * 2 * 2 ^ q := mul_le_mul_of_nonneg_right bitsQ (by positivity)
      nlinarith
    have bound : (1 : ℚ) ≤ 2 ^ m.t := one_le_pow₀ one_le_two
    have not : ¬(2 ^ m.t * 2 - 1) * 2 ^ m.qmax < (k : ℚ) * 2 ^ q := by
      rw [not_lt]
      nlinarith
    simp only [not, false_iff]
    omega

theorem overflowBits_eq (mem : m ∈ [Fmt.single, Fmt.double]) (mode : RoundMode) (neg : Bool) :
    fpOverflow m mode neg = m.overflowBits mode neg := by
  simp only [List.mem_cons, List.not_mem_nil, or_false] at mem
  rcases mem with rfl | rfl <;> cases mode <;> cases neg <;> rfl

/-! ### Correct rounding -/

/-- The neighbour that `fpRound` finds. -/
def neighbour (m : Fmt) (mode : RoundMode) (neg : Bool) (k : Nat) (q : Int) : ℚ :=
  rational neg (roundAt mode neg k q (formatUnit m k q)) (formatUnit m k q)

/-- What `fpRound` makes of its neighbour, for any number that no half of a unit tells apart from the one it rounds. -/
theorem fpRound_of_neighbour (mem : m ∈ [Fmt.single, Fmt.double]) (pos : 0 < k) (like : RoundsLike m k q X)
    (mode : RoundMode) (neg : Bool) : let y := neighbour m mode neg k q
    let r := negatedIf neg X
    let out := fpRound m mode neg k q
    (|y| ≤ m.largest → fpReal m out.1 = some y ∧ fpNeg m out.1 = neg ∧ (y = r → out.2 = 0) ∧
      (y ≠ r → Tiny m mode r → out.2 = flagUF ||| flagNX) ∧ (y ≠ r → ¬Tiny m mode r → out.2 = flagNX)) ∧
    (m.largest < |y| → out = (m.overflowBits mode neg, flagOF ||| flagNX)) := by
  intro y r out
  have standard := standard_of_mem mem
  have bits := roundAt_le pos (freeUnit_le_formatUnit m k q) mode neg
  have normal : m.qmin < formatUnit m k q → 2 ^ m.t ≤ roundAt mode neg k q (formatUnit m k q) := by
    intro above
    have free : formatUnit m k q = freeUnit m k q := (max_choice _ _).resolve_right above.ne'
    rw [free]
    exact le_roundAt_free pos mode neg
  have exact_iff := exactAt_iff_of_like (neg := neg) like (freeUnit_le_formatUnit m k q) mode
  have overflow := largest_lt_iff (neg := neg) bits fun above => normal (standard.qmin_lt_qmax.trans above)
  have tiny := tinyAt_iff (mode := mode) (neg := neg) pos like
  refine ⟨fun le => ?_, fun above => ?_⟩
  · have inside := (not_congr overflow).1 (not_lt.2 le)
    have least : m.qmin ≤ formatUnit m k q := le_max_right _ _
    have fits : Fits m (roundAt mode neg k q (formatUnit m k q)) (formatUnit m k q) :=
      { least, bits, most := by omega, normal := by omega,
        finite := fun eq => lt_of_le_of_ne bits fun full => inside (.inr ⟨eq.symm, full⟩) }
    obtain ⟨value, sign⟩ := fits.fpPack standard neg
    rw [show out = _ from fpRound_eq m mode neg k q, if_neg inside, show y = r ↔ _ from exact_iff.symm, ← tiny]
    refine ⟨value, sign, fun exact => if_pos exact, fun lost isTiny => ?_, fun lost notTiny => ?_⟩
    · exact (if_neg (mt exact_iff.1 lost)).trans (if_pos isTiny)
    · exact (if_neg (mt exact_iff.1 lost)).trans (if_neg notTiny)
  · rw [show out = _ from fpRound_eq m mode neg k q, if_pos (overflow.1 above), overflowBits_eq mem]

/-- `fpRound` rounds the number `X` when it rounds a number that no half of a unit tells apart from it. -/
theorem fpRound_rounded (mem : m ∈ [Fmt.single, Fmt.double]) (pos : 0 < k) (like : RoundsLike m k q X)
    (mode : RoundMode) (neg : Bool) : Rounded m mode neg (negatedIf neg X) (fpRound m mode neg k q) :=
  ⟨_, roundAt_roundsTo pos like, fpRound_of_neighbour mem pos like mode neg⟩

/-- Settles O55: a number rounds as itself. -/
theorem rounding_is_correct : Obligations.rounding_is_correct := by
  intro m mem mode neg k q pos
  rw [rational_eq_negatedIf]
  exact fpRound_rounded mem pos (roundsLike_self m k q) mode neg

end Sys2Proof.Machine
end

section
/-! PROOFS. The arithmetic on finite operands is the exact result rounded once (45_rvf.md, R344, R346, R351 to R359). -/

namespace Sys2Proof.Machine

open Sys2Proof

variable {m : Fmt} {mode : RoundMode} {neg : Bool} {k v : Nat} {q : Int} {r x y : ℚ}

/-! ### Patterns -/

theorem zeroBits_eq (mem : m ∈ [Fmt.single, Fmt.double]) (neg : Bool) : m.zero neg = m.zeroBits neg := by
  simp only [List.mem_cons, List.not_mem_nil, or_false] at mem
  rcases mem with rfl | rfl <;> cases neg <;> rfl

/-- A finite pattern: its sign, and a number of the format. -/
theorem fpUnpack_of_fpReal (h : fpReal m v = some x) : ∃ k q, fpUnpack m v = .fin (fpNeg m v) k q ∧
    x = rational (fpNeg m v) k q := by
  obtain ⟨neg, k, q, unpacked, rfl⟩ := fpReal_eq_some_cases h
  obtain rfl : neg = fpNeg m v := by
    unfold fpUnpack at unpacked
    dsimp only at unpacked
    split_ifs at unpacked <;> cases unpacked <;> rfl
  exact ⟨k, q, unpacked, rfl⟩

theorem bounds_of_fpUnpack (standard : m.Standard) (h : fpUnpack m v = .fin neg k q) :
    k < 2 ^ (m.t + 1) ∧ m.qmin ≤ q ∧ q ≤ m.qmax := by
  have frac : fpIndex m v % 2 ^ m.t < 2 ^ m.t := Nat.mod_lt _ (Nat.two_pow_pos _)
  have field := fpIndex_div_lt m v
  have two := standard.two_bias
  have order := standard.qmin_lt_qmax
  rw [pow_succ]
  by_cases top : fpIndex m v / 2 ^ m.t = 2 ^ m.w - 1
  · rw [fpUnpack_of_top top] at h
    split at h <;> cases h
  · rw [fpUnpack_of_finite top] at h
    generalize fpIndex m v / 2 ^ m.t = e at *
    generalize fpIndex m v % 2 ^ m.t = f at *
    split at h
    · injection h with _ hk hq
      subst hk hq
      exact ⟨by omega, le_refl _, order.le⟩
    · next normal =>
      injection h with _ hk hq
      subst hk hq
      have most : e + 2 ≤ 2 ^ m.w := by omega
      have mostInt : (e : Int) + 2 ≤ 2 ^ m.w := by exact_mod_cast most
      refine ⟨by omega, ?_, ?_⟩
      · rw [Fmt.qmin]
        omega
      · rw [Fmt.qmax]
        omega

/-! ### The exact results -/

/-- `out` is the nonzero number `r` rounded once. -/
def RoundsOnce (m : Fmt) (mode : RoundMode) (r : ℚ) (out : Nat × BitVec 5) : Prop :=
  r ≠ 0 → ∃ neg k q, 0 < k ∧ r = rational neg k q ∧ out = fpRound m mode neg k q

/-- An exact zero, the sum of two terms of these signs. -/
def zeroSum (m : Fmt) (mode : RoundMode) (n1 n2 : Bool) : Nat × BitVec 5 :=
  (m.zeroBits (if n1 = n2 then n1 else decide (mode = .rdn)), 0)

theorem rational_mul (n1 n2 : Bool) (k1 k2 : Nat) (q1 q2 : Int) :
    rational n1 k1 q1 * rational n2 k2 q2 = rational (n1 != n2) (k1 * k2) (q1 + q2) := by
  unfold rational
  rw [zpow_add₀ two_ne_zero]
  push_cast
  cases n1 <;> cases n2 <;> simp <;> ring

theorem negatedIf_rational (flip neg : Bool) (k : Nat) (q : Int) :
    negatedIf flip (rational neg k q) = rational (neg != flip) k q := by
  cases flip with
  | false => rw [Bool.bne_false]; rfl
  | true => rw [Bool.bne_true, rational_neg]; rfl

/-- A number in a finer unit. -/
theorem rational_finer {q' : Int} (h : q' ≤ q) (neg : Bool) (k : Nat) :
    rational neg k q = ((if neg then -(k * 2 ^ (q - q').toNat : Nat) else (k * 2 ^ (q - q').toNat : Nat) : Int) : ℚ) * 2 ^ q' := by
  rw [rational_eq, zpow_split h]
  cases neg <;> simp <;> ring

theorem int_mul_zpow (i : Int) (q : Int) : (i : ℚ) * 2 ^ q = rational (decide (i < 0)) i.natAbs q := by
  rw [rational_eq, Nat.cast_natAbs, Int.cast_abs]
  rcases lt_or_ge i 0 with less | nonneg
  · rw [abs_of_neg (by exact_mod_cast less)]
    simp [less]
  · rw [abs_of_nonneg (by exact_mod_cast nonneg)]
    simp [not_lt.2 nonneg]

theorem fpRoundZ_roundsOnce (m : Fmt) (mode : RoundMode) (neg : Bool) (k : Nat) (q : Int) :
    RoundsOnce m mode (rational neg k q) (fpRoundZ m mode neg k q) := by
  intro nonzero
  have ne : k ≠ 0 := fun zero => nonzero (rational_eq_zero_iff.2 zero)
  exact ⟨neg, k, q, Nat.pos_of_ne_zero ne, rfl, if_neg ne⟩

theorem fpRoundZ_zero (mem : m ∈ [Fmt.single, Fmt.double]) (neg : Bool) (q : Int) :
    fpRoundZ m mode neg 0 q = (m.zeroBits neg, 0) := by
  rw [← zeroBits_eq mem]
  rfl

section
variable {n1 n2 : Bool} {k1 k2 : Nat} {q1 q2 : Int}

/-- The sum of two terms in the finer of their units. -/
def alignedSum (n1 : Bool) (k1 : Nat) (q1 : Int) (n2 : Bool) (k2 : Nat) (q2 : Int) : Int :=
  (if n1 then -(k1 * 2 ^ (q1 - min q1 q2).toNat : Nat) else (k1 * 2 ^ (q1 - min q1 q2).toNat : Nat) : Int) +
    (if n2 then -(k2 * 2 ^ (q2 - min q1 q2).toNat : Nat) else (k2 * 2 ^ (q2 - min q1 q2).toNat : Nat) : Int)

theorem fpAddFin_eq (m : Fmt) (mode : RoundMode) (n1 n2 : Bool) (k1 k2 : Nat) (q1 q2 : Int) :
    fpAddFin m mode n1 k1 q1 n2 k2 q2 = if alignedSum n1 k1 q1 n2 k2 q2 = 0 then
        if n1 = n2 then (m.zero n1, 0#5) else (m.zero (decide (mode = .rdn)), 0#5)
      else fpRound m mode (decide (alignedSum n1 k1 q1 n2 k2 q2 < 0)) (alignedSum n1 k1 q1 n2 k2 q2).natAbs (min q1 q2) := rfl

theorem add_eq_alignedSum (n1 n2 : Bool) (k1 k2 : Nat) (q1 q2 : Int) :
    rational n1 k1 q1 + rational n2 k2 q2 = (alignedSum n1 k1 q1 n2 k2 q2 : ℚ) * 2 ^ min q1 q2 := by
  rw [rational_finer (min_le_left q1 q2), rational_finer (min_le_right q1 q2), alignedSum, Int.cast_add, add_mul]

theorem add_eq_zero_iff_alignedSum :
    rational n1 k1 q1 + rational n2 k2 q2 = 0 ↔ alignedSum n1 k1 q1 n2 k2 q2 = 0 := by
  have unit : (2 : ℚ) ^ min q1 q2 ≠ 0 := zpow_ne_zero _ two_ne_zero
  rw [add_eq_alignedSum, mul_eq_zero, or_iff_left unit, Int.cast_eq_zero]

theorem fpAddFin_roundsOnce (m : Fmt) (mode : RoundMode) (n1 n2 : Bool) (k1 k2 : Nat) (q1 q2 : Int) :
    RoundsOnce m mode (rational n1 k1 q1 + rational n2 k2 q2) (fpAddFin m mode n1 k1 q1 n2 k2 q2) := by
  intro nonzero
  have ne := mt add_eq_zero_iff_alignedSum.2 nonzero
  exact ⟨_, _, _, Int.natAbs_pos.2 ne, by rw [add_eq_alignedSum, int_mul_zpow], by rw [fpAddFin_eq, if_neg ne]⟩

theorem fpAddFin_zero (mem : m ∈ [Fmt.single, Fmt.double]) (zero : rational n1 k1 q1 + rational n2 k2 q2 = 0) :
    fpAddFin m mode n1 k1 q1 n2 k2 q2 = zeroSum m mode n1 n2 := by
  rw [fpAddFin_eq, if_pos (add_eq_zero_iff_alignedSum.1 zero), zeroSum, ← zeroBits_eq mem]
  split <;> rfl

/-- On finite operands a fused operation adds the product, perhaps negated, and the addend, perhaps negated. -/
theorem fused_of_finite {a b c : Nat} {na nb nc : Bool} {ka kb kc : Nat} {qa qb qc : Int}
    (ha : fpUnpack m a = .fin na ka qa) (hb : fpUnpack m b = .fin nb kb qb) (hc : fpUnpack m c = .fin nc kc qc)
    {o : (Fmt → RoundMode → Nat → Nat → Nat → Nat × BitVec 5) × Bool × Bool} (ho : o ∈ fusedOps) (mode : RoundMode) :
    o.1 m mode a b c = fpAddFin m mode ((na != nb) != o.2.1) (ka * kb) (qa + qb) (nc != o.2.2) kc qc := by
  simp only [fusedOps, List.mem_cons, List.not_mem_nil, or_false] at ho
  rcases ho with rfl | rfl | rfl | rfl
  · simp [fpMadd, fpFmaVal, ha, hb, hc, fpMulVal, fpAddVal]
  · simp [fpMsub, fpFmaVal, ha, hb, hc, fpMulVal, fpAddVal, FpVal.negate]
  · simp [fpNmadd, fpFmaVal, ha, hb, hc, fpMulVal, fpAddVal, FpVal.negate]
  · simp [fpNmsub, fpFmaVal, ha, hb, hc, fpMulVal, fpAddVal, FpVal.negate]

end

/-! ### From single to double precision -/

/-- A finite number of single precision is one of double precision. -/
theorem onGrid_double {k : Nat} {q : Int} (h : fpUnpack .single v = .fin neg k q) :
    OnGrid .double Fmt.double.units (rational neg k q) ∧ |rational neg k q| ≤ Fmt.double.largest := by
  obtain ⟨bits, least, most⟩ := bounds_of_fpUnpack ⟨by decide, by decide⟩ h
  rw [show Fmt.single.qmin = -149 by decide] at least
  rw [show Fmt.single.qmax = 104 by decide] at most
  have bits' : k < 2 ^ 24 := bits
  refine ⟨⟨neg, k, q, bits.trans (by decide), ?_, rfl⟩, ?_⟩
  · rw [Fmt.units, show Fmt.double.qmin = -1074 by decide]
    omega
  · have largest : Fmt.double.largest = rational false (2 ^ 53 - 1) 971 := rfl
    rw [abs_rational, largest, rational_eq, if_neg Bool.false_ne_true]
    exact mul_le_mul (by exact_mod_cast bits'.le.trans (by decide)) (zpow_le_zpow_right₀ one_le_two (by omega))
      (by positivity) (by positivity)

/-- A number that the format has rounds to itself, with no flag. -/
theorem fpRound_exact (mem : m ∈ [Fmt.single, Fmt.double]) (pos : 0 < k) (grid : OnGrid m m.units (rational neg k q))
    (le : |rational neg k q| ≤ m.largest) : fpReal m (fpRound m mode neg k q).1 = some (rational neg k q) ∧
      fpNeg m (fpRound m mode neg k q).1 = neg ∧ (fpRound m mode neg k q).2 = 0 := by
  obtain ⟨y, rounds, inside, -⟩ := rounding_is_correct m mem mode neg k q pos
  obtain rfl := rounds.eq_of_onGrid grid
  obtain ⟨value, sign, exact, -⟩ := inside le
  exact ⟨value, sign, exact rfl⟩

theorem fpReal_zeroBits (mem : m ∈ [Fmt.single, Fmt.double]) (neg : Bool) :
    fpReal m (m.zeroBits neg) = some 0 ∧ fpNeg m (m.zeroBits neg) = neg := by
  have pos : 0 < m.signWeight := Nat.two_pow_pos _
  have index := fpIndex_zero_add (m := m) neg pos
  rw [Nat.add_zero, zeroBits_eq mem] at index
  have sign := fpNeg_zero_add (m := m) neg pos
  rw [Nat.add_zero, zeroBits_eq mem] at sign
  have below : fpIndex m (m.zeroBits neg) < m.top := by
    rw [index]
    exact (standard_of_mem mem).top_pos
  refine ⟨?_, sign⟩
  rw [fpReal_of_lt below, index, fpMagnitude_zero, rational_eq_zero_iff.2 rfl]

theorem fpConvert_double {a : Nat} (h : fpReal .single a = some x) (mode : RoundMode) :
    fpReal .double (fpConvert .single .double mode a).1 = some x ∧
      fpNeg .double (fpConvert .single .double mode a).1 = fpNeg .single a ∧
      (fpConvert .single .double mode a).2 = 0 := by
  have mem : Fmt.double ∈ [Fmt.single, Fmt.double] := by simp
  obtain ⟨k, q, unpacked, rfl⟩ := fpUnpack_of_fpReal h
  obtain ⟨grid, le⟩ := onGrid_double unpacked
  have convert : fpConvert .single .double mode a = fpRoundZ .double mode (fpNeg .single a) k q := by
    rw [fpConvert, unpacked]
  rw [convert]
  rcases Nat.eq_zero_or_pos k with rfl | pos
  · obtain ⟨value, sign⟩ := fpReal_zeroBits mem (fpNeg .single a)
    rw [fpRoundZ_zero mem, rational_eq_zero_iff.2 rfl]
    exact ⟨value, sign, rfl⟩
  · rw [fpRoundZ, if_neg pos.ne']
    exact fpRound_exact mem pos grid le

/-! ### The statement -/

/-- Settles O57, with the operands unpacked. -/
theorem arithmetic_is_exact_then_rounded : Obligations.arithmetic_is_exact_then_rounded := by
  intro m mem mode a b c x y z n hx hy hz
  obtain ⟨ka, qa, ua, rfl⟩ := fpUnpack_of_fpReal hx
  obtain ⟨kb, qb, ub, rfl⟩ := fpUnpack_of_fpReal hy
  obtain ⟨kc, qc, uc, rfl⟩ := fpUnpack_of_fpReal hz
  intro rounds na nb nc zero
  have add : fpAdd m mode a b = fpAddFin m mode na ka qa nb kb qb := by rw [fpAdd, ua, ub, fpAddVal]
  have sub : fpSub m mode a b = fpAddFin m mode na ka qa (!nb) kb qb := by rw [fpSub, ua, ub, FpVal.negate, fpAddVal]
  have mul : fpMul m mode a b = fpRoundZ m mode (na != nb) (ka * kb) (qa + qb) := by rw [fpMul, ua, ub, fpMulVal]
  have minus (u v : ℚ) : u - v = u + -v := sub_eq_add_neg u v
  refine ⟨⟨?_, ?_, ?_, ?_, ?_⟩, ?_, ?_, ?_, ?_, ?_, ?_, ?_, ?_⟩
  · rw [add]
    exact fpAddFin_roundsOnce m mode _ _ _ _ _ _
  · rw [sub, minus, ← rational_neg]
    exact fpAddFin_roundsOnce m mode _ _ _ _ _ _
  · rw [mul, rational_mul]
    exact fpRoundZ_roundsOnce m mode _ _ _
  · have integer : (n : ℚ) = rational (decide (n < 0)) n.natAbs 0 := by rw [← int_mul_zpow, zpow_zero, mul_one]
    rw [integer]
    exact fpRoundZ_roundsOnce m mode _ _ _
  · rfl
  · intro h
    rw [add, fpAddFin_zero mem h]
    rfl
  · intro h
    rw [minus, ← rational_neg] at h
    rw [sub, fpAddFin_zero mem h]
    rfl
  · intro h
    rw [rational_mul, rational_eq_zero_iff] at h
    rw [mul, h, fpRoundZ_zero mem]
  · intro zeroA nonzeroB
    rw [rational_eq_zero_iff] at zeroA
    rw [Ne, rational_eq_zero_iff] at nonzeroB
    simp only [fpDiv, ua, ub, nonzeroB, if_false, zeroA, Nat.zero_mul, Nat.zero_div, Nat.zero_mod, bne_self_eq_false, fpJam,
      Bool.false_eq_true, Nat.mul_zero, Nat.add_zero]
    exact fpRoundZ_zero mem _ _
  · intro zeroA
    rw [rational_eq_zero_iff] at zeroA
    simp only [fpSqrt, ua, zeroA, if_true]
    rw [zeroBits_eq mem]
    rfl
  · intro o ho
    dsimp only
    rw [fused_of_finite ua ub uc ho, rational_mul, negatedIf_rational, negatedIf_rational]
    exact ⟨fpAddFin_roundsOnce m mode _ _ _ _ _ _, fpAddFin_zero mem⟩
  · intro d memD
    have convert : fpConvert m d mode a = fpRoundZ d mode na ka qa := by rw [fpConvert, ua]
    rw [convert]
    refine ⟨fpRoundZ_roundsOnce d mode _ _ _, fun h => ?_⟩
    rw [rational_eq_zero_iff.1 h, fpRoundZ_zero memD]
  · rintro rfl
    exact fpConvert_double hx mode

end Sys2Proof.Machine
end

section
/-! PROOFS. NaNs, invalid operations and infinite operands (45_rvf.md, R344 d and e, R345, R348, R350). -/

namespace Sys2Proof.Machine

open Sys2Proof

variable {m : Fmt} {mode : RoundMode} {v a b c : Nat}

/-! ### Patterns -/

theorem nanBits_eq (mem : m ∈ [Fmt.single, Fmt.double]) : m.nan = m.nanBits := by
  simp only [List.mem_cons, List.not_mem_nil, or_false] at mem
  rcases mem with rfl | rfl <;> rfl

theorem infBits_eq (mem : m ∈ [Fmt.single, Fmt.double]) (neg : Bool) : m.inf neg = m.infBits neg := by
  simp only [List.mem_cons, List.not_mem_nil, or_false] at mem
  rcases mem with rfl | rfl <;> cases neg <;> rfl

/-- The sign of a value that is no NaN. -/
def FpVal.sign : FpVal → Bool
  | .nan _ => false
  | .inf n => n
  | .fin n _ _ => n

/-- The value is an infinity. -/
def FpVal.IsInf (x : FpVal) : Prop := ∃ n, x = .inf n

/-- The value is a number. -/
def FpVal.IsFin (x : FpVal) : Prop := ∃ n k q, x = .fin n k q

/-- The value is a zero. -/
def FpVal.IsZero (x : FpVal) : Prop := ∃ n q, x = .fin n 0 q

/-- The operands of a product are a zero and an infinity. -/
def ZeroTimesInf (x y : FpVal) : Prop := x.IsZero ∧ y.IsInf ∨ y.IsZero ∧ x.IsInf

theorem fpNeg_of_not_nan (h : fpIsNan m v = false) : fpNeg m v = (fpUnpack m v).sign := by
  cases unpacked : fpUnpack m v with
  | nan s => rw [fpIsNan, unpacked] at h; cases h
  | inf n => exact (fpUnpack_eq_inf_iff.1 unpacked).2
  | fin n k q =>
    obtain ⟨k', q', unpacked', -⟩ := fpUnpack_of_fpReal (show fpReal m v = some (rational n k q) by rw [fpReal, unpacked])
    rw [unpacked] at unpacked'
    injection unpacked' with sign
    exact sign.symm

theorem fpReal_eq_zero_iff : fpReal m v = some 0 ↔ (fpUnpack m v).IsZero := by
  constructor
  · intro h
    obtain ⟨n, k, q, unpacked, zero⟩ := fpReal_eq_some_cases h
    rw [rational_eq_zero_iff.1 zero.symm] at unpacked
    exact ⟨n, q, unpacked⟩
  · rintro ⟨n, q, unpacked⟩
    rw [fpReal, unpacked]
    exact congrArg some (rational_eq_zero_iff.2 rfl)

theorem fpReal_isSome_iff : (fpReal m v).isSome = true ↔ (fpUnpack m v).IsFin := by
  constructor
  · intro h
    obtain ⟨n, k, q, unpacked, -⟩ := fpReal_eq_some_cases (Option.some_get h).symm
    exact ⟨n, k, q, unpacked⟩
  · rintro ⟨n, k, q, unpacked⟩
    rw [fpReal, unpacked]
    rfl

theorem mem_infs_iff {x : FpVal} : x ∈ [FpVal.inf false, FpVal.inf true] ↔ x.IsInf := by
  simp only [List.mem_cons, List.not_mem_nil, or_false, FpVal.IsInf, Bool.exists_bool]

theorem isNan_iff {x : FpVal} : x.isNan = true ↔ ∃ s, x = .nan s := by
  cases x <;> simp [FpVal.isNan]

variable {x y z : FpVal}

theorem isSignaling_of_isNan_eq_false (h : x.isNan = false) : x.isSignaling = false := by
  cases x with
  | nan s => cases h
  | inf n => rfl
  | fin n k q => rfl

theorem isFin_of_not_inf (number : x.isNan = false) (h : ¬x.IsInf) : x.IsFin := by
  cases x with
  | nan s => cases number
  | inf n => exact absurd ⟨n, rfl⟩ h
  | fin n k q => exact ⟨n, k, q, rfl⟩

/-! ### Sums -/

theorem fpAddVal_of_nan (h : (x.isNan || y.isNan) = true) :
    fpAddVal m mode x y = (m.nan, nanFlag (x.isSignaling || y.isSignaling)) := by
  cases x with
  | nan s => rfl
  | inf n =>
    obtain ⟨s, rfl⟩ := isNan_iff.1 (show y.isNan = true from h)
    rfl
  | fin n k q =>
    obtain ⟨s, rfl⟩ := isNan_iff.1 (show y.isNan = true from h)
    rfl

theorem fpAddVal_opposite (n : Bool) : fpAddVal m mode (.inf n) (.inf !n) = (m.nan, flagNV) := by
  cases n <;> rfl

theorem fpAddVal_inf_left {n : Bool} (number : y.isNan = false) (ne : y ≠ .inf (!n)) :
    fpAddVal m mode (.inf n) y = (m.inf n, 0) := by
  cases y with
  | nan s => cases number
  | inf n' =>
    have same : n = n' := by cases n <;> cases n' <;> simp_all
    exact if_pos same
  | fin _ _ _ => rfl

theorem fpAddVal_inf_right {n : Bool} (number : x.isNan = false) (ne : x ≠ .inf (!n)) :
    fpAddVal m mode x (.inf n) = (m.inf n, 0) := by
  cases x with
  | nan s => cases number
  | inf n' =>
    have same : n' = n := by cases n <;> cases n' <;> simp_all
    subst same
    exact if_pos rfl
  | fin _ _ _ => rfl

/-! ### Negation -/

/-- The value, negated if so. -/
def FpVal.negatedIf (flip : Bool) (x : FpVal) : FpVal := if flip then x.negate else x

theorem isNan_negatedIf (flip : Bool) : (x.negatedIf flip).isNan = x.isNan := by
  cases flip <;> cases x <;> rfl

theorem isSignaling_negatedIf (flip : Bool) : (x.negatedIf flip).isSignaling = x.isSignaling := by
  cases flip <;> cases x <;> rfl

theorem sign_negatedIf (flip : Bool) (h : x.isNan = false) : (x.negatedIf flip).sign = (x.sign != flip) := by
  cases x with
  | nan s => cases h
  | inf n => cases flip <;> cases n <;> rfl
  | fin n k q => cases flip <;> cases n <;> rfl

theorem negatedIf_inf (flip n : Bool) : (FpVal.inf n).negatedIf flip = .inf (n != flip) := by
  cases flip <;> cases n <;> rfl

theorem negatedIf_fin (flip n : Bool) (k : Nat) (q : Int) : (FpVal.fin n k q).negatedIf flip = .fin (n != flip) k q := by
  cases flip <;> cases n <;> rfl

theorem isInf_negatedIf (flip : Bool) : (x.negatedIf flip).IsInf ↔ x.IsInf := by
  cases flip <;> cases x <;> simp [FpVal.negatedIf, FpVal.negate, FpVal.IsInf]

theorem isZero_negatedIf (flip : Bool) : (x.negatedIf flip).IsZero ↔ x.IsZero := by
  cases flip <;> cases x <;> simp [FpVal.negatedIf, FpVal.negate, FpVal.IsZero]

theorem zeroTimesInf_negatedIf (flip : Bool) : ZeroTimesInf (x.negatedIf flip) y ↔ ZeroTimesInf x y := by
  rw [ZeroTimesInf, isZero_negatedIf, isInf_negatedIf]
  rfl

/-! ### Products -/

theorem fpMulVal_of_nan (h : (x.isNan || y.isNan) = true) :
    fpMulVal x y = (.nan (x.isSignaling || y.isSignaling), false) := by
  cases x with
  | nan s => rfl
  | inf n =>
    obtain ⟨s, rfl⟩ := isNan_iff.1 (show y.isNan = true from h)
    rfl
  | fin n k q =>
    obtain ⟨s, rfl⟩ := isNan_iff.1 (show y.isNan = true from h)
    rfl

theorem fpMulVal_of_zeroTimesInf (h : ZeroTimesInf x y) : fpMulVal x y = (.nan false, true) := by
  rcases h with ⟨⟨n, q, rfl⟩, n', rfl⟩ | ⟨⟨n, q, rfl⟩, n', rfl⟩ <;> rfl

theorem fpMulVal_of_inf (number : (x.isNan || y.isNan) = false) (valid : ¬ZeroTimesInf x y) (inf : x.IsInf ∨ y.IsInf) :
    fpMulVal x y = (.inf (x.sign != y.sign), false) := by
  cases x with
  | nan s => cases number
  | inf n =>
    cases y with
    | nan s => cases number
    | inf n' => rfl
    | fin n' k q => exact if_neg fun zero => valid (.inr ⟨⟨n', q, by rw [zero]⟩, n, rfl⟩)
  | fin n k q =>
    obtain ⟨n', rfl⟩ := inf.resolve_left (by simp [FpVal.IsInf])
    exact if_neg fun zero => valid (.inl ⟨⟨n, q, by rw [zero]⟩, n', rfl⟩)

theorem not_zeroTimesInf_of_nan (h : (x.isNan || y.isNan) = true) : ¬ZeroTimesInf x y := by
  rintro (⟨⟨n, q, rfl⟩, n', rfl⟩ | ⟨⟨n, q, rfl⟩, n', rfl⟩) <;> cases h

/-! ### Fused operations -/

theorem fpFmaVal_of_zeroTimesInf (h : ZeroTimesInf x y) : fpFmaVal m mode x y z = (m.nan, flagNV) := by
  rw [fpFmaVal, fpMulVal_of_zeroTimesInf h]
  rfl

theorem fpFmaVal_of_inf (number : (x.isNan || y.isNan) = false) (valid : ¬ZeroTimesInf x y) (inf : x.IsInf ∨ y.IsInf) :
    fpFmaVal m mode x y z = fpAddVal m mode (.inf (x.sign != y.sign)) z := by
  rw [fpFmaVal, fpMulVal_of_inf number valid inf]

/-- With a NaN operand: the flag is that of a signaling operand or of zero times infinity. -/
theorem fpFmaVal_of_nan (h : (x.isNan || y.isNan || z.isNan) = true) :
    ∃ fl, fpFmaVal m mode x y z = (m.nan, fl) ∧ (fl = flagNV ∨ fl = 0) ∧
      (fl = flagNV ↔ (x.isSignaling || y.isSignaling || z.isSignaling) = true ∨ ZeroTimesInf x y) := by
  have flag (s : Bool) : (nanFlag s = flagNV ∨ nanFlag s = 0) ∧ (nanFlag s = flagNV ↔ s = true) := by
    cases s <;> decide
  by_cases invalid : ZeroTimesInf x y
  · exact ⟨flagNV, fpFmaVal_of_zeroTimesInf invalid, .inl rfl, by simp [invalid]⟩
  · refine ⟨nanFlag (x.isSignaling || y.isSignaling || z.isSignaling), ?_, (flag _).1, by simp [(flag _).2, invalid]⟩
    cases xy : x.isNan || y.isNan with
    | true =>
      rw [fpFmaVal, fpMulVal_of_nan xy]
      dsimp only
      rw [Bool.or_false]
    | false =>
      rw [xy, Bool.false_or] at h
      obtain ⟨numberX, numberY⟩ := Bool.or_eq_false_iff.1 xy
      rw [isSignaling_of_isNan_eq_false numberX, isSignaling_of_isNan_eq_false numberY]
      by_cases inf : x.IsInf ∨ y.IsInf
      · rw [fpFmaVal_of_inf xy invalid inf]
        exact fpAddVal_of_nan h
      · obtain ⟨nx, kx, qx, rfl⟩ := isFin_of_not_inf numberX (fun i => inf (.inl i))
        obtain ⟨ny, ky, qy, rfl⟩ := isFin_of_not_inf numberY (fun i => inf (.inr i))
        exact fpAddVal_of_nan h

theorem fpFmaVal_of_fin (hx : x.IsFin) (hy : y.IsFin) (n : Bool) : fpFmaVal m mode x y (.inf n) = (m.inf n, 0) := by
  obtain ⟨nx, kx, qx, rfl⟩ := hx
  obtain ⟨ny, ky, qy, rfl⟩ := hy
  rfl

/-- A fused operation adds the product, perhaps negated, and the addend, perhaps negated. -/
theorem fused_eq {o : (Fmt → RoundMode → Nat → Nat → Nat → Nat × BitVec 5) × Bool × Bool} (ho : o ∈ fusedOps)
    (m : Fmt) (mode : RoundMode) (a b c : Nat) : o.1 m mode a b c =
      fpFmaVal m mode ((fpUnpack m a).negatedIf o.2.1) (fpUnpack m b) ((fpUnpack m c).negatedIf o.2.2) := by
  simp only [fusedOps, List.mem_cons, List.not_mem_nil, or_false] at ho
  rcases ho with rfl | rfl | rfl | rfl <;> rfl

theorem mem_fusedOps {op : Fmt → RoundMode → Nat → Nat → Nat → Nat × BitVec 5}
    (h : op ∈ [fpMadd, fpMsub, fpNmadd, fpNmsub]) : ∃ flips, (op, flips) ∈ fusedOps := by
  simp only [List.mem_cons, List.not_mem_nil, or_false] at h
  rcases h with rfl | rfl | rfl | rfl <;> simp [fusedOps]

end Sys2Proof.Machine
end

section
/-! PROOFS. What a NaN, an invalid operation, a division by zero and an infinite operand give (45_rvf.md): the statement. -/

namespace Sys2Proof.Machine

open Sys2Proof

variable {m : Fmt} {mode : RoundMode} {a b c : Nat}

/-! ### Each operation on the values -/

theorem fpSub_eq (m : Fmt) (mode : RoundMode) (a b : Nat) :
    fpSub m mode a b = fpAddVal m mode (fpUnpack m a) ((fpUnpack m b).negatedIf true) := rfl

theorem fpMul_of_zeroTimesInf (h : ZeroTimesInf (fpUnpack m a) (fpUnpack m b)) : fpMul m mode a b = (m.nan, flagNV) := by
  rw [fpMul, fpMulVal_of_zeroTimesInf h]
  rfl

theorem fpMul_of_inf (number : (fpIsNan m a || fpIsNan m b) = false) (valid : ¬ZeroTimesInf (fpUnpack m a) (fpUnpack m b))
    (inf : (fpUnpack m a).IsInf ∨ (fpUnpack m b).IsInf) : fpMul m mode a b = (m.inf (fpNeg m a != fpNeg m b), 0) := by
  obtain ⟨na, nb⟩ := Bool.or_eq_false_iff.1 number
  rw [fpMul, fpMulVal_of_inf number valid inf, fpNeg_of_not_nan na, fpNeg_of_not_nan nb]
  rfl

theorem fpDiv_invalid
    (h : (fpUnpack m a).IsZero ∧ (fpUnpack m b).IsZero ∨ (fpUnpack m a).IsInf ∧ (fpUnpack m b).IsInf) :
    fpDiv m mode a b = (m.nan, flagNV) := by
  rcases h with ⟨⟨na, qa, ua⟩, nb, qb, ub⟩ | ⟨⟨na, ua⟩, nb, ub⟩
  · simp [fpDiv, ua, ub]
  · simp [fpDiv, ua, ub]

theorem fpDiv_zero {x : ℚ} (hx : fpReal m a = some x) (nonzero : x ≠ 0) (hb : fpReal m b = some 0) :
    fpDiv m mode a b = (m.inf (fpNeg m a != fpNeg m b), flagDZ) := by
  obtain ⟨ka, qa, ua, rfl⟩ := fpUnpack_of_fpReal hx
  obtain ⟨kb, qb, ub, zero⟩ := fpUnpack_of_fpReal hb
  rw [Ne, rational_eq_zero_iff] at nonzero
  simp [fpDiv, ua, ub, rational_eq_zero_iff.1 zero.symm, nonzero]

theorem fpSqrt_negative (sign : fpNeg m a = true) (number : fpIsNan m a = false) (nonzero : fpReal m a ≠ some 0) :
    fpSqrt m mode a = (m.nan, flagNV) := by
  rw [fpNeg_of_not_nan number] at sign
  rw [Ne, fpReal_eq_zero_iff] at nonzero
  rw [fpIsNan] at number
  rw [fpSqrt]
  cases unpacked : fpUnpack m a with
  | nan s => rw [unpacked] at number; cases number
  | inf n => rw [unpacked] at sign; exact if_pos sign
  | fin n k q =>
    rw [unpacked] at sign nonzero
    exact (if_neg fun zero => nonzero ⟨n, q, by rw [zero]⟩).trans (if_pos sign)

theorem fpMul_of_nan (h : (fpIsNan m a || fpIsNan m b) = true) :
    fpMul m mode a b = (m.nan, nanFlag (fpIsSignaling m a || fpIsSignaling m b)) := by
  rw [fpMul, fpMulVal_of_nan h]
  dsimp only
  rw [Bool.or_false]
  rfl

theorem fpDiv_of_nan (h : (fpIsNan m a || fpIsNan m b) = true) :
    fpDiv m mode a b = (m.nan, nanFlag (fpIsSignaling m a || fpIsSignaling m b)) := by
  unfold fpIsNan at h
  unfold fpDiv fpIsSignaling
  cases ua : fpUnpack m a with
  | nan s => rfl
  | inf n =>
    rw [ua] at h
    obtain ⟨s, ub⟩ := isNan_iff.1 (show (fpUnpack m b).isNan = true from h)
    rw [ub]
    rfl
  | fin n k q =>
    rw [ua] at h
    obtain ⟨s, ub⟩ := isNan_iff.1 (show (fpUnpack m b).isNan = true from h)
    rw [ub]
    rfl

/-- Comparisons, minimum and maximum with a NaN operand. -/
theorem compare_of_nan (h : (fpIsNan m a || fpIsNan m b) = true) :
    fpEq m a b = (false, nanFlag (fpIsSignaling m a || fpIsSignaling m b)) ∧ fpLt m a b = (false, flagNV) ∧
      fpLe m a b = (false, flagNV) ∧ ∀ op ∈ [fpMin, fpMax],
        op m a b = (if fpIsNan m a && fpIsNan m b then m.nan else if fpIsNan m a then b else a,
          nanFlag (fpIsSignaling m a || fpIsSignaling m b)) := by
  have ordered : (!fpIsNan m a && !fpIsNan m b) = false := by rw [← Bool.not_or, h, Bool.not_true]
  refine ⟨?_, ?_, ?_, fun op mem => ?_⟩
  · rw [fpEq, ordered, Bool.false_and]
  · rw [fpLt, ordered, Bool.false_and, h]
    rfl
  · rw [fpLe, ordered, Bool.false_and, h]
    rfl
  · simp only [List.mem_cons, List.not_mem_nil, or_false] at mem
    cases na : fpIsNan m a with
    | true => rcases mem with rfl | rfl <;> simp [fpMin, fpMax, na]
    | false =>
      have nb : fpIsNan m b = true := by rwa [na, Bool.false_or] at h
      rcases mem with rfl | rfl <;> simp [fpMin, fpMax, na, nb]

/-! ### The statement -/

/-- A number that is no zero, times an infinity, is no invalid product. -/
theorem not_zeroTimesInf {x y : FpVal} (hx : x.IsInf) (hy : ¬y.IsZero) : ¬ZeroTimesInf x y := by
  obtain ⟨n, rfl⟩ := hx
  rintro (⟨⟨n', q, eq⟩, -⟩ | ⟨zero, -⟩)
  · cases eq
  · exact hy zero

theorem zeroTimesInf_comm {x y : FpVal} : ZeroTimesInf x y ↔ ZeroTimesInf y x := or_comm

/-- The infinite operand of each operation, where the operation is not invalid. -/
theorem of_inf {n : Bool} (ua : fpUnpack m a = .inf n) :
    (fpIsNan m b = false → fpUnpack m b ≠ .inf (!n) →
        fpAdd m mode a b = (m.inf n, 0) ∧ fpAdd m mode b a = (m.inf n, 0)) ∧
      (fpIsNan m b = false → fpUnpack m b ≠ .inf n →
        fpSub m mode a b = (m.inf n, 0) ∧ fpSub m mode b a = (m.inf !n, 0)) ∧
      (fpIsNan m b = false → fpReal m b ≠ some 0 → fpMul m mode a b = (m.inf (n != fpNeg m b), 0) ∧
        fpMul m mode b a = (m.inf (n != fpNeg m b), 0)) ∧
      ((fpReal m b).isSome = true → fpDiv m mode a b = (m.inf (n != fpNeg m b), 0) ∧
        fpDiv m mode b a = (m.zero (n != fpNeg m b), 0)) ∧
      (n = false → fpSqrt m mode a = (m.inf false, 0)) := by
  have na : fpIsNan m a = false := by rw [fpIsNan, ua]; rfl
  have sign : fpNeg m a = n := (fpUnpack_eq_inf_iff.1 ua).2
  refine ⟨fun nb ne => ?_, fun nb ne => ?_, fun nb nonzero => ?_, fun finite => ?_, fun pos => ?_⟩
  · rw [fpAdd, fpAdd, ua]
    exact ⟨fpAddVal_inf_left nb ne, fpAddVal_inf_right nb ne⟩
  · rw [fpSub_eq, fpSub_eq, ua, negatedIf_inf, Bool.bne_true]
    refine ⟨fpAddVal_inf_left (by rwa [isNan_negatedIf]) fun eq => ne ?_, fpAddVal_inf_right nb (by rwa [Bool.not_not])⟩
    cases ub : fpUnpack m b with
    | nan s => rw [fpIsNan, ub] at nb; cases nb
    | inf n' =>
      rw [ub, negatedIf_inf, FpVal.inf.injEq] at eq
      rw [FpVal.inf.injEq]
      simpa using eq
    | fin n' k q => rw [ub, negatedIf_fin] at eq; cases eq
  · have inf : (fpUnpack m a).IsInf := ⟨n, ua⟩
    rw [Ne, fpReal_eq_zero_iff] at nonzero
    have valid := not_zeroTimesInf inf nonzero
    rw [fpMul_of_inf (by rw [na, nb]; rfl) valid (.inl inf),
      fpMul_of_inf (by rw [na, nb]; rfl) (mt zeroTimesInf_comm.1 valid) (.inr inf), sign, bne_comm (a := fpNeg m b)]
    exact ⟨rfl, rfl⟩
  · obtain ⟨y, hy⟩ := Option.isSome_iff_exists.1 finite
    obtain ⟨k, q, ub, -⟩ := fpUnpack_of_fpReal hy
    rw [fpDiv, fpDiv, ua, ub]
    exact ⟨rfl, by rw [bne_comm (a := n)]; rfl⟩
  · rw [fpSqrt, ua, pos]
    rfl

/-- A fused operation with an infinite operand. -/
theorem fused_of_inf {o : (Fmt → RoundMode → Nat → Nat → Nat → Nat × BitVec 5) × Bool × Bool} (ho : o ∈ fusedOps) :
    let product := (fpNeg m a != fpNeg m b) != o.2.1
    let addend := fpNeg m c != o.2.2
    ((fpIsNan m a || fpIsNan m b || fpIsNan m c) = false → ¬ZeroTimesInf (fpUnpack m a) (fpUnpack m b) →
      (fpUnpack m a).IsInf ∨ (fpUnpack m b).IsInf →
        ((fpUnpack m c).IsInf ∧ addend ≠ product → o.1 m mode a b c = (m.nan, flagNV)) ∧
        (¬((fpUnpack m c).IsInf ∧ addend ≠ product) → o.1 m mode a b c = (m.inf product, 0))) ∧
      ((fpUnpack m a).IsFin → (fpUnpack m b).IsFin → (fpUnpack m c).IsInf → o.1 m mode a b c = (m.inf addend, 0)) := by
  intro product addend
  rw [fused_eq ho]
  refine ⟨fun number valid inf => ?_, fun finA finB infC => ?_⟩
  · obtain ⟨number, nc⟩ := Bool.or_eq_false_iff.1 number
    obtain ⟨na, nb⟩ := Bool.or_eq_false_iff.1 number
    have sign : (((fpUnpack m a).negatedIf o.2.1).sign != (fpUnpack m b).sign) = product := by
      rw [sign_negatedIf _ na, ← fpNeg_of_not_nan na, ← fpNeg_of_not_nan nb]
      exact Bool.xor_right_comm _ _ _
    rw [fpFmaVal_of_inf (by rw [isNan_negatedIf]; exact number) (by rwa [zeroTimesInf_negatedIf])
      (by rwa [isInf_negatedIf]), sign]
    refine ⟨fun ⟨infC, ne⟩ => ?_, fun agree => ?_⟩
    · obtain ⟨n, uc⟩ := infC
      have opposite : (n != o.2.2) = !product := by
        rw [← (fpUnpack_eq_inf_iff.1 uc).2]
        exact Bool.eq_not.2 ne
      rw [uc, negatedIf_inf, opposite, fpAddVal_opposite]
    · refine fpAddVal_inf_left (by rw [isNan_negatedIf]; exact nc) fun eq => agree ?_
      have infC : (fpUnpack m c).IsInf := (isInf_negatedIf o.2.2).1 ⟨_, eq⟩
      obtain ⟨n, uc⟩ := infC
      rw [uc, negatedIf_inf, FpVal.inf.injEq] at eq
      refine ⟨⟨n, uc⟩, ?_⟩
      show (fpNeg m c != o.2.2) ≠ product
      rw [(fpUnpack_eq_inf_iff.1 uc).2, eq]
      exact Bool.not_ne_self _
  · obtain ⟨n, uc⟩ := infC
    obtain ⟨nx, kx, qx, ua⟩ := finA
    rw [uc, negatedIf_inf, ua, negatedIf_fin, fpFmaVal_of_fin ⟨_, _, _, rfl⟩ finB, ← (fpUnpack_eq_inf_iff.1 uc).2]

/-- Settles O58, operation by operation, with the operands unpacked. -/
theorem nan_rules : Obligations.nan_rules := by
  intro m mem mode a b c nan nv sig2 inf zeroInf invalid
  have infs (v : Nat) : inf v ↔ (fpUnpack m v).IsInf := mem_infs_iff
  have zeroInf_iff : zeroInf ↔ ZeroTimesInf (fpUnpack m a) (fpUnpack m b) := by
    simp only [zeroInf, infs, fpReal_eq_zero_iff, ZeroTimesInf]
  have invalid_eq : invalid = (m.nan, flagNV) := by rw [nanBits_eq mem]
  rw [invalid_eq]
  simp only [infs, zeroInf_iff]
  simp only [← nanBits_eq mem, ← infBits_eq mem, ← zeroBits_eq mem]
  refine ⟨fun n ua => ⟨fun ub => ?_, fun ub => ?_⟩, fpMul_of_zeroTimesInf, fun h => fpDiv_invalid ?_,
    fun x hx nonzero => fpDiv_zero hx nonzero, fpSqrt_negative, fun nanA d memD => ?_, fun h => ?_, fun h op ho => ?_,
    fun n ua => ?_, fun o ho => ⟨fun h => ?_, fused_of_inf ho |>.1, fun finA finB => ?_⟩⟩
  · rw [fpAdd, ua, ub, fpAddVal_opposite]
  · rw [fpSub_eq, ua, ub, negatedIf_inf, Bool.bne_true, fpAddVal_opposite]
  · simpa only [fpReal_eq_zero_iff] using h
  · obtain ⟨s, ua⟩ := isNan_iff.1 nanA
    rw [← nanBits_eq memD, fpSqrt, fpConvert, fpIsSignaling, ua]
    exact ⟨rfl, rfl⟩
  · obtain ⟨eq, lt, le, minmax⟩ := compare_of_nan h
    refine ⟨fpAddVal_of_nan h, ?_, fpMul_of_nan h, fpDiv_of_nan h, eq, lt, le, minmax⟩
    rw [fpSub_eq, fpAddVal_of_nan (by rwa [isNan_negatedIf]), isSignaling_negatedIf]
    rfl
  · obtain ⟨flips, ho⟩ := mem_fusedOps ho
    have fused := fused_eq ho m mode a b c
    dsimp only at fused
    have nanOp := fpFmaVal_of_nan (m := m) (mode := mode) (x := (fpUnpack m a).negatedIf flips.1) (y := fpUnpack m b)
      (z := (fpUnpack m c).negatedIf flips.2) (by rwa [isNan_negatedIf, isNan_negatedIf])
    rwa [isSignaling_negatedIf, isSignaling_negatedIf, zeroTimesInf_negatedIf, ← fused] at nanOp
  · obtain ⟨add, sub, mul, div, sqrt⟩ := of_inf (mode := mode) (b := b) ua
    refine ⟨add, sub, mul, div, sqrt, fun d memD => ?_⟩
    rw [← infBits_eq memD, fpConvert, ua]
    rfl
  · rw [fused_eq ho]
    exact fpFmaVal_of_zeroTimesInf (by rwa [zeroTimesInf_negatedIf])
  · rw [fpReal_isSome_iff] at finA finB
    exact (fused_of_inf ho).2 finA finB

end Sys2Proof.Machine
end

section
/-! PROOFS. The quotient (45_rvf.md, R344, R354): a quotient with its remainder jammed into the last bit rounds as the exact one. -/

namespace Sys2Proof.Machine

open Sys2Proof

variable {m : Fmt} {mode : RoundMode} {k : Nat} {q : Int}

/-- A number of at least two bits more than `p` rounds as any number on the same side of all even numbers. -/
theorem roundsLike_of_even {V : ℚ} (bits : 2 ^ (m.t + 2) ≤ k) (low : ∀ c : Int, 2 * c ≤ (k : Int) ↔ (2 * c : ℚ) ≤ V)
    (high : ∀ c : Int, (k : Int) ≤ 2 * c ↔ V ≤ (2 * c : ℚ)) : RoundsLike m k q (V * 2 ^ q) := by
  intro u free
  have log : m.t + 2 ≤ Nat.log2 k := (Nat.le_log2 (by have := Nat.two_pow_pos (m.t + 2); omega)).2 bits
  have coarse : q + 2 ≤ u := by
    rw [freeUnit] at free
    omega
  obtain ⟨d, rfl⟩ : ∃ d : Nat, u = q + 2 + d := ⟨(u - q - 2).toNat, by omega⟩
  have unit : (0 : ℚ) < 2 * 2 ^ d := by positivity
  have scale (W : ℚ) : 2 * (W * 2 ^ (q - (q + 2 + d))) = W / (2 * 2 ^ d) := by
    rw [show q - (q + 2 + d) = -((2 + d : Nat) : Int) by push_cast; ring, zpow_neg, zpow_natCast, pow_add]
    field_simp
  have moved : V * 2 ^ q * 2 ^ (-(q + 2 + d)) = V * 2 ^ (q - (q + 2 + d)) := by
    rw [mul_assoc, ← zpow_add₀ two_ne_zero, ← sub_eq_add_neg]
  rw [moved]
  intro j
  have low := low (j * 2 ^ d)
  have high := high (j * 2 ^ d)
  have even : ((2 * (j * 2 ^ d : Int) : Int) : ℚ) = j * (2 * 2 ^ d) := by push_cast; ring
  rw [← Int.cast_le (R := ℚ), even, Int.cast_natCast] at low high
  have even' : (2 * ((j * 2 ^ d : Int) : ℚ)) = j * (2 * 2 ^ d) := by push_cast; ring
  rw [even'] at low high
  rw [scale, scale, le_div_iff₀ unit, le_div_iff₀ unit, div_le_iff₀ unit, div_le_iff₀ unit]
  exact ⟨low, high⟩

section
variable {num den : Nat}

/-- The quotient as `fpDiv` rounds it. -/
def jammedQuotient (num den : Nat) : Nat := fpJam (num / den) (num % den != 0)

theorem le_jammedQuotient_iff (pos : 0 < den) (c : Int) : 2 * c ≤ (jammedQuotient num den : Int) ↔ c * den ≤ num := by
  have posInt : (0 : Int) < den := by exact_mod_cast pos
  rw [← Int.le_ediv_iff_mul_le posInt (a := c), ← Int.natCast_ediv, jammedQuotient, fpJam]
  split <;> omega

theorem jammedQuotient_le_iff (pos : 0 < den) (c : Int) : (jammedQuotient num den : Int) ≤ 2 * c ↔ (num : Int) ≤ c * den := by
  have posInt : (0 : Int) < den := by exact_mod_cast pos
  by_cases exact : num % den = 0
  · obtain ⟨z, rfl⟩ := Nat.dvd_of_mod_eq_zero exact
    rw [jammedQuotient, exact, Nat.mul_div_cancel_left _ pos, Nat.cast_mul, mul_comm (den : Int), mul_le_mul_iff_left₀ posInt, fpJam]
    simp
  · have ne : (num : Int) ≠ c * den := fun eq => exact (by
      have : (num : Int) % den = 0 := by rw [eq, Int.mul_emod_left]
      exact_mod_cast this)
    have less : (num : Int) < c * den ↔ (num : Int) / den < c := (Int.ediv_lt_iff_lt_mul posInt).symm
    rw [le_iff_lt_or_eq (a := (num : Int)), or_iff_left ne, less, ← Int.natCast_ediv, jammedQuotient, fpJam,
      if_pos (by simpa using exact)]
    omega

theorem jammedQuotient_like (pos : 0 < den) (bits : 2 ^ (m.t + 2) ≤ jammedQuotient num den) :
    RoundsLike m (jammedQuotient num den) q (2 * ((num : ℚ) / den) * 2 ^ q) := by
  have posQ : (0 : ℚ) < den := by exact_mod_cast pos
  refine roundsLike_of_even bits (fun c => ?_) fun c => ?_
  · rw [le_jammedQuotient_iff pos, mul_le_mul_iff_right₀ two_pos, le_div_iff₀ posQ]
    exact_mod_cast Iff.rfl
  · rw [jammedQuotient_le_iff pos, mul_le_mul_iff_right₀ two_pos, div_le_iff₀ posQ]
    exact_mod_cast Iff.rfl

end

theorem rational_div (n1 n2 : Bool) (k1 k2 : Nat) (q1 q2 : Int) : rational n1 k1 q1 / rational n2 k2 q2 =
    negatedIf (n1 != n2) ((k1 : ℚ) / k2 * 2 ^ (q1 - q2)) := by
  unfold rational
  rw [zpow_sub₀ two_ne_zero]
  cases n1 <;> cases n2 <;> simp [negatedIf] <;> ring

/-- A quotient of numbers that are not zero is the exact one, rounded once. -/
theorem fpDiv_rounded (mem : m ∈ [Fmt.single, Fmt.double]) (mode : RoundMode) {a b : Nat} {x y : ℚ}
    (hx : fpReal m a = some x) (hy : fpReal m b = some y) (nonzeroX : x ≠ 0) (nonzeroY : y ≠ 0) :
    Rounded m mode (fpNeg m a != fpNeg m b) (x / y) (fpDiv m mode a b) := by
  obtain ⟨k1, q1, ua, rfl⟩ := fpUnpack_of_fpReal hx
  obtain ⟨k2, q2, ub, rfl⟩ := fpUnpack_of_fpReal hy
  rw [Ne, rational_eq_zero_iff] at nonzeroX nonzeroY
  have den := Nat.pos_of_ne_zero nonzeroY
  have small := (bounds_of_fpUnpack (standard_of_mem mem) ub).1
  have bits : 2 ^ (m.t + 2) ≤ jammedQuotient (k1 * 2 ^ (2 * m.t + 5)) k2 := by
    have many : 2 ^ (m.t + 2) ≤ k1 * 2 ^ (2 * m.t + 5) / k2 := by
      rw [Nat.le_div_iff_mul_le den]
      calc 2 ^ (m.t + 2) * k2 ≤ 2 ^ (m.t + 2) * 2 ^ (m.t + 1) := Nat.mul_le_mul_left _ small.le
        _ = 1 * 2 ^ (2 * m.t + 3) := by rw [← pow_add]; ring
        _ ≤ k1 * 2 ^ (2 * m.t + 5) :=
          Nat.mul_le_mul (Nat.pos_of_ne_zero nonzeroX) (Nat.pow_le_pow_right two_pos (by omega))
    rw [jammedQuotient, fpJam]
    omega
  have pos : 0 < jammedQuotient (k1 * 2 ^ (2 * m.t + 5)) k2 := lt_of_lt_of_le (Nat.two_pow_pos _) bits
  have exact : (2 * (((k1 * 2 ^ (2 * m.t + 5) : Nat) : ℚ) / k2)) * 2 ^ (q1 - q2 - (2 * m.t + 5 : Nat) - 1) =
      (k1 : ℚ) / k2 * 2 ^ (q1 - q2) := by
    rw [zpow_sub₀ two_ne_zero, zpow_sub₀ two_ne_zero (q1 - q2), zpow_natCast, zpow_one]
    push_cast
    field_simp
  have div : fpDiv m mode a b = fpRound m mode (fpNeg m a != fpNeg m b) (jammedQuotient (k1 * 2 ^ (2 * m.t + 5)) k2)
      (q1 - q2 - (2 * m.t + 5 : Nat) - 1) := by
    rw [fpDiv, ua, ub]
    exact (if_neg nonzeroY).trans (if_neg pos.ne')
  rw [div, rational_div, ← exact]
  exact fpRound_rounded mem pos (jammedQuotient_like den bits) mode _

end Sys2Proof.Machine
end

section
/-! PROOFS. The square root (45_rvf.md, R344, R355): a root with its remainder jammed into the last bit rounds as the exact one. -/

namespace Sys2Proof.Machine

open Sys2Proof

variable {m : Fmt} {mode : RoundMode}

/-! ### The integer square root -/

theorem isqrtFrom_spec {n r : Nat} : (fuel : Nat) → r * r ≤ n → n < (r + 2 ^ fuel) * (r + 2 ^ fuel) →
    isqrtFrom n fuel r * isqrtFrom n fuel r ≤ n ∧ n < (isqrtFrom n fuel r + 1) * (isqrtFrom n fuel r + 1)
  | 0, low, high => ⟨low, high⟩
  | fuel + 1, low, high => by
    rw [isqrtFrom]
    split
    · next le => exact isqrtFrom_spec fuel le (by rwa [Nat.add_assoc, ← Nat.two_mul, ← Nat.pow_succ'])
    · next gt => exact isqrtFrom_spec fuel low (not_le.1 gt)

theorem isqrt_eq_sqrt (n : Nat) : isqrt n = Nat.sqrt n := by
  rw [Nat.eq_sqrt]
  refine isqrtFrom_spec _ (Nat.zero_le n) ?_
  rw [Nat.zero_add, ← pow_add]
  exact Nat.lt_log2_self.trans_le (Nat.pow_le_pow_right two_pos (by omega))

/-- The root as `fpSqrt` rounds it. -/
def jammedRoot (n : Nat) : Nat := fpJam (isqrt n) (isqrt n * isqrt n != n)

theorem le_jammedRoot_iff (n c : Nat) : 2 * c ≤ jammedRoot n ↔ c * c ≤ n := by
  rw [← Nat.le_sqrt, ← isqrt_eq_sqrt, jammedRoot, fpJam]
  split <;> omega

theorem jammedRoot_le_iff (n c : Nat) : jammedRoot n ≤ 2 * c ↔ n ≤ c * c := by
  rw [jammedRoot, isqrt_eq_sqrt, fpJam]
  by_cases exact : Nat.sqrt n * Nat.sqrt n = n
  · have square := Nat.mul_self_le_mul_self_iff (m := Nat.sqrt n) (n := c)
    rw [exact] at square
    rw [square, exact, bne_self_eq_false]
    simp
  · have ne : n ≠ c * c := fun eq => exact (by rw [eq, Nat.sqrt_eq])
    rw [le_iff_lt_or_eq (a := n), or_iff_left ne, ← Nat.sqrt_lt, if_pos (by simpa using exact)]
    omega

/-! ### Numbers on the same side as a root -/

/-- `r` lies among the nonnegative multiples of `2 ^ s` as the root of `x` does. -/
def RootLike (s : Int) (r x : ℚ) : Prop :=
  ∀ c : Nat, ((c : ℚ) * 2 ^ s ≤ r ↔ (c * 2 ^ s) * (c * 2 ^ s) ≤ x) ∧ (r ≤ c * 2 ^ s ↔ x ≤ (c * 2 ^ s) * (c * 2 ^ s))

theorem RootLike.coarser {s s' : Int} {r x : ℚ} (h : RootLike s r x) (le : s ≤ s') : RootLike s' r x := by
  intro c
  have := h (c * 2 ^ (s' - s).toNat)
  rw [zpow_split le, ← mul_assoc]
  exact_mod_cast this

theorem jammedRoot_like (n : Nat) (q : Int) :
    RootLike (q + 1) (jammedRoot n * 2 ^ q) (n * (2 ^ (q + 1) * 2 ^ (q + 1))) := by
  intro c
  have unit : (0 : ℚ) < 2 ^ q := zpow_pos two_pos q
  have square : (0 : ℚ) < 2 ^ (q + 1) * 2 ^ (q + 1) := by positivity
  have twice : (c : ℚ) * 2 ^ (q + 1) = (2 * c : Nat) * 2 ^ q := by
    rw [zpow_add_one₀ two_ne_zero]
    push_cast
    ring
  have squared : (c * 2 ^ (q + 1)) * (c * 2 ^ (q + 1)) = ((c * c : Nat) : ℚ) * (2 ^ (q + 1) * 2 ^ (q + 1)) := by
    push_cast
    ring
  rw [squared, twice, mul_le_mul_iff_left₀ unit, mul_le_mul_iff_left₀ unit, mul_le_mul_iff_left₀ square,
    mul_le_mul_iff_left₀ square]
  exact ⟨by exact_mod_cast le_jammedRoot_iff n c, by exact_mod_cast jammedRoot_le_iff n c⟩

section
variable {x lower u : ℚ}

/-- A root between two neighbours of the grid, in its lower half, rounds to the lower one; rounding up it is that one. -/
theorem rootRoundsTo_lower (grid : OnGrid m m.units lower) (nonneg : 0 ≤ lower) (low : lower * lower ≤ x)
    (high : x < (lower + u) * (lower + u)) (near : ∀ z, OnGrid m m.units z → z ≤ lower ∨ lower + u ≤ z) (pos : 0 < u)
    (nearest : mode = .rne ∨ mode = .rmm → x < (lower + u / 2) * (lower + u / 2)) (up : mode = .rup → x ≤ lower * lower) :
    RootRoundsTo m mode x lower := by
  have below (z : ℚ) (hz : OnGrid m m.units z) (le : z * z ≤ x) : z ≤ lower :=
    (near z hz).resolve_right fun above => by
      have := mul_self_le_mul_self (by linarith) above
      linarith
  have closest (z : ℚ) (hz : OnGrid m m.units z) (nonnegZ : 0 ≤ z) (half : x < (lower + u / 2) * (lower + u / 2)) :
      (z < lower → (lower + z) / 2 * ((lower + z) / 2) < x) ∧ (lower < z → x < (lower + z) / 2 * ((lower + z) / 2)) := by
    constructor
    · intro less
      exact lt_of_lt_of_le (mul_self_lt_mul_self (by linarith) (by linarith)) low
    · intro greater
      have above := (near z hz).resolve_left (not_le.2 greater)
      exact lt_of_lt_of_le half (mul_self_le_mul_self (by linarith) (by linarith))
  refine ⟨grid, nonneg, ?_⟩
  cases mode with
  | rtz | rdn => exact ⟨low, fun z hz _ le => below z hz le⟩
  | rup =>
    refine ⟨up rfl, fun z hz nonnegZ le => ?_⟩
    by_contra less
    have := mul_self_lt_mul_self nonnegZ (not_le.1 less)
    linarith
  | rne | rmm => exact fun z hz nonnegZ => closest z hz nonnegZ (nearest (by simp))

/-- A root between two neighbours of the grid, in its upper half, rounds to the upper one, as it does when rounded up. -/
theorem rootRoundsTo_upper (grid : OnGrid m m.units (lower + u)) (nonneg : 0 ≤ lower)
    (high : x < (lower + u) * (lower + u)) (near : ∀ z, OnGrid m m.units z → z ≤ lower ∨ lower + u ≤ z) (pos : 0 < u)
    (nearest : mode = .rne ∨ mode = .rmm → (lower + u / 2) * (lower + u / 2) < x) (up : mode = .rup → lower * lower < x)
    (toward : mode ≠ .rtz ∧ mode ≠ .rdn) : RootRoundsTo m mode x (lower + u) := by
  have closest (z : ℚ) (hz : OnGrid m m.units z) (nonnegZ : 0 ≤ z) (half : (lower + u / 2) * (lower + u / 2) < x) :
      (z < lower + u → (lower + u + z) / 2 * ((lower + u + z) / 2) < x) ∧
        (lower + u < z → x < (lower + u + z) / 2 * ((lower + u + z) / 2)) := by
    constructor
    · intro less
      have below := (near z hz).resolve_right (not_le.2 less)
      exact lt_of_le_of_lt (mul_self_le_mul_self (by linarith) (by linarith)) half
    · intro greater
      exact high.trans (mul_self_lt_mul_self (by linarith) (by linarith))
  refine ⟨grid, by linarith, ?_⟩
  cases mode with
  | rtz => exact absurd rfl toward.1
  | rdn => exact absurd rfl toward.2
  | rup =>
    refine ⟨high.le, fun z hz nonnegZ le => (near z hz).resolve_left fun below => ?_⟩
    have := mul_self_le_mul_self nonnegZ below
    have := up rfl
    linarith
  | rne | rmm => exact fun z hz nonnegZ => closest z hz nonnegZ (nearest (by simp))

end

/-- The neighbour of a number is the neighbour of the root, when the number lies as the root does and is not halfway between
two multiples of the unit. -/
theorem Chosen.rootRoundsTo {q : Int} {X x : ℚ} {n : Nat} (h : Chosen mode false X n) (unit : UnitAt m m.units q X)
    (root : RootLike (q - 1) (X * 2 ^ q) x) (noTie : ∀ lo : Nat, 2 * X ≠ 2 * lo + 1) :
    RootRoundsTo m mode x (n * 2 ^ q) := by
  have pos : (0 : ℚ) < 2 ^ q := zpow_pos two_pos q
  have grid : OnGrid m m.units (n * 2 ^ q) := by
    have := onGrid_rational (units := m.units) (fun _ inUnits => Int.le_add_one inUnits) unit.1
      (h.le_two_pow unit.2.1) false
    rwa [rational_eq] at this
  obtain ⟨lo, low, high, choice⟩ := h
  have nonneg : (0 : ℚ) ≤ lo * 2 ^ q := by positivity
  have near (z : ℚ) (hz : OnGrid m m.units z) : z ≤ lo * 2 ^ q ∨ lo * 2 ^ q + 2 ^ q ≤ z := by
    have := hz.le_or_ge unit high
    rwa [add_mul, one_mul] at this
  have halfEq : ((2 * lo + 1 : Nat) : ℚ) * 2 ^ (q - 1) = lo * 2 ^ q + 2 ^ q / 2 := by
    rw [zpow_sub_one₀ two_ne_zero]
    push_cast
    ring
  have hiEq : ((lo + 1 : Nat) : ℚ) * 2 ^ q = lo * 2 ^ q + 2 ^ q := by
    push_cast
    ring
  have atLo := root.coarser (s' := q) (by omega) lo
  have atHi := root.coarser (s' := q) (by omega) (lo + 1)
  have atHalf := root (2 * lo + 1)
  rw [hiEq] at atHi
  rw [halfEq] at atHalf
  have square_low := atLo.1.1 (mul_le_mul_of_nonneg_right low pos.le)
  have square_high : x < (lo * 2 ^ q + 2 ^ q) * (lo * 2 ^ q + 2 ^ q) := by
    have := mul_lt_mul_of_pos_right high pos
    rw [add_mul, one_mul] at this
    exact not_le.1 (mt atHi.1.2 (not_le.2 this))
  have half_lt : 2 * X < 2 * lo + 1 → x < (lo * 2 ^ q + 2 ^ q / 2) * (lo * 2 ^ q + 2 ^ q / 2) := fun less => by
    have := mul_lt_mul_of_pos_right less pos
    exact not_le.1 (mt atHalf.1.2 (by linarith))
  have lt_half : (2 * lo + 1 : ℚ) < 2 * X → (lo * 2 ^ q + 2 ^ q / 2) * (lo * 2 ^ q + 2 ^ q / 2) < x := fun less => by
    have := mul_lt_mul_of_pos_right less pos
    exact not_le.1 (mt atHalf.2.2 (by linarith))
  have half := noTie lo
  rcases choice with ⟨up, rfl⟩ | ⟨stays, rfl⟩
  · rw [hiEq] at grid ⊢
    refine rootRoundsTo_upper grid nonneg square_high near pos ?_ ?_ ?_
    · rintro (rfl | rfl)
      · exact lt_half (up.resolve_right fun tie => half tie.1)
      · exact lt_half (lt_of_le_of_ne up half.symm)
    · rintro rfl
      have less : (lo : ℚ) < X := lt_of_le_of_ne low up.2.symm
      have := mul_lt_mul_of_pos_right less pos
      exact not_le.1 (mt atLo.2.2 (not_le.2 this))
    · refine ⟨?_, ?_⟩
      · rintro rfl
        exact up
      · rintro rfl
        exact Bool.false_ne_true up.1
  · refine rootRoundsTo_lower grid nonneg square_low square_high near pos ?_ ?_
    · rintro (rfl | rfl)
      · exact half_lt (lt_of_le_of_ne (not_lt.1 fun less => stays (.inl less)) half)
      · exact half_lt (not_le.1 stays)
    · rintro rfl
      have eq : X = n := not_not.1 fun ne => stays ⟨rfl, ne⟩
      exact atLo.2.1 (by rw [eq])

end Sys2Proof.Machine
end

section
/-! PROOFS. `fpSqrt` rounds the exact root once, with no overflow and no underflow (45_rvf.md, R344, R355). -/

namespace Sys2Proof.Machine

open Sys2Proof

variable {m : Fmt} {mode : RoundMode} {k : Nat} {q : Int} {x : ℚ}

/-! ### The size of the root -/

/-- The size of the root of a number of at least `s` and at most `s + b` bits. -/
theorem log2_jammedRoot {n s b : Nat} (low : 2 ^ s ≤ n) (high : n < 2 ^ (s + b)) :
    s ≤ 2 * Nat.log2 (jammedRoot n) ∧ 2 * Nat.log2 (jammedRoot n) < s + b + 2 := by
  have below : jammedRoot n < 2 ^ (Nat.log2 (jammedRoot n) + 1) := Nat.lt_log2_self
  have above : jammedRoot n ≠ 0 → 2 ^ Nat.log2 (jammedRoot n) ≤ jammedRoot n := Nat.log2_self_le
  constructor
  · rw [pow_succ', ← not_le, le_jammedRoot_iff, not_le, ← pow_add, ← two_mul] at below
    exact (Nat.pow_lt_pow_iff_right (by decide)).1 (low.trans_lt below) |>.le
  · rcases Nat.eq_zero_or_pos (Nat.log2 (jammedRoot n)) with zero | pos
    · omega
    · have nonzero : jammedRoot n ≠ 0 := fun zero => by rw [zero] at pos; exact absurd pos (by decide)
      have half := above nonzero
      rw [← Nat.sub_add_cancel pos, pow_succ', le_jammedRoot_iff, ← pow_add] at half
      have := (Nat.pow_lt_pow_iff_right (by decide)).1 (half.trans_lt high)
      omega

/-- The bits by which `fpSqrt` moves a number up. -/
def rootShift (m : Fmt) (q : Int) : Nat := 2 * m.t + 8 + (q % 2).toNat

/-- The exponent of the root. -/
def rootExponent (m : Fmt) (q : Int) : Int := (q - rootShift m q) / 2 - 1

theorem fpSqrt_eq {a : Nat} (ua : fpUnpack m a = .fin false k q) (pos : 0 < k) :
    fpSqrt m mode a = fpRound m mode false (jammedRoot (k * 2 ^ rootShift m q)) (rootExponent m q) := by
  rw [fpSqrt, ua]
  exact (if_neg pos.ne').trans (if_neg Bool.false_ne_true)

theorem two_mul_rootExponent (m : Fmt) (q : Int) : 2 * (rootExponent m q + 1) + rootShift m q = q := by
  have parity : (((q % 2).toNat : Nat) : Int) = q % 2 := Int.toNat_of_nonneg (Int.emod_nonneg q (by decide))
  rw [rootExponent, rootShift]
  push_cast
  omega

theorem rational_eq_root (k : Nat) (q : Int) : rational false k q =
    ((k * 2 ^ rootShift m q : Nat) : ℚ) * (2 ^ (rootExponent m q + 1) * 2 ^ (rootExponent m q + 1)) := by
  have exponent := two_mul_rootExponent m q
  rw [rational_eq, if_neg Bool.false_ne_true, ← zpow_add₀ two_ne_zero]
  push_cast
  rw [mul_assoc, ← zpow_natCast, ← zpow_add₀ two_ne_zero]
  congr 2
  omega

/-- The root of a number of the format: how many bits, and that it is far from both ends of the exponents. -/
structure RootInside (m : Fmt) (J : Nat) (e : Int) : Prop where
  bits : m.t + 2 ≤ Nat.log2 J
  least : m.qmin ≤ freeUnit m J e
  most : freeUnit m J e < m.qmax

theorem rootInside (mem : m ∈ [Fmt.single, Fmt.double]) (pos : 0 < k) (bits : k < 2 ^ (m.t + 1)) (least : m.qmin ≤ q)
    (most : q ≤ m.qmax) : RootInside m (jammedRoot (k * 2 ^ rootShift m q)) (rootExponent m q) := by
  have wide : (m.t : Int) + 3 ≤ m.bias := by
    simp only [List.mem_cons, List.not_mem_nil, or_false] at mem
    rcases mem with rfl | rfl <;> decide
  have low : 2 ^ rootShift m q ≤ k * 2 ^ rootShift m q := Nat.le_mul_of_pos_left _ pos
  have high : k * 2 ^ rootShift m q < 2 ^ (rootShift m q + (m.t + 1)) := by
    rw [pow_add, mul_comm k]
    exact Nat.mul_lt_mul_of_pos_left bits (Nat.two_pow_pos _)
  have log := log2_jammedRoot low high
  have exponent := two_mul_rootExponent m q
  have shift : 2 * m.t + 8 ≤ rootShift m q := Nat.le_add_right _ _
  rw [Fmt.qmin] at least
  rw [Fmt.qmax] at most
  refine ⟨by omega, ?_, ?_⟩
  · rw [freeUnit, Fmt.qmin]
    omega
  · rw [freeUnit, Fmt.qmax]
    omega

/-! ### No tie -/

/-- The square of a number of more than `p` bits that is odd is no number of the format, nor is it at another exponent. -/
theorem odd_square_ne {lo s d : Nat} (bits : k < 2 ^ (m.t + 1)) (pos : 0 < k) (many : 2 ^ m.t ≤ lo) :
    k * 2 ^ s ≠ (2 * lo + 1) * 2 ^ d * ((2 * lo + 1) * 2 ^ d) := by
  intro eq
  have odd : Nat.Coprime ((2 * lo + 1) * (2 * lo + 1)) (2 ^ s) := by
    refine Nat.Coprime.pow_right _ ?_
    rw [Nat.coprime_two_right]
    exact (odd_two_mul_add_one lo).mul (odd_two_mul_add_one lo)
  have divides : (2 * lo + 1) * (2 * lo + 1) ∣ k * 2 ^ s := ⟨2 ^ d * 2 ^ d, by rw [eq]; ring⟩
  have := Nat.le_of_dvd pos (odd.dvd_of_dvd_mul_right divides)
  rw [pow_succ] at bits
  nlinarith

theorem root_not_tie {s : Nat} {e : Int} (bits : k < 2 ^ (m.t + 1)) (pos : 0 < k)
    (inside : RootInside m (jammedRoot (k * 2 ^ s)) e) (lo : Nat) :
    2 * ((jammedRoot (k * 2 ^ s) : ℚ) * 2 ^ (e - freeUnit m (jammedRoot (k * 2 ^ s)) e)) ≠ 2 * lo + 1 := by
  intro tie
  obtain ⟨d, hd⟩ : ∃ d : Nat, Nat.log2 (jammedRoot (k * 2 ^ s)) = m.t + 2 + d := Nat.exists_eq_add_of_le inside.bits
  have posJ : 0 < jammedRoot (k * 2 ^ s) := Nat.pos_of_ne_zero fun zero => by
    rw [zero, show Nat.log2 0 = 0 from rfl] at hd
    omega
  have many : 2 ^ m.t ≤ lo := by
    have low := (free_bits (m := m) (q := e) posJ).1
    have : (2 ^ m.t : ℚ) < lo + 1 := by linarith
    exact Nat.lt_succ_iff.1 (by exact_mod_cast this)
  have exponent : e - freeUnit m (jammedRoot (k * 2 ^ s)) e = -((2 + d : Nat) : Int) := by
    rw [freeUnit, hd]
    push_cast
    ring
  rw [exponent, zpow_neg, zpow_natCast, pow_add, ← div_eq_mul_inv, mul_div_assoc', div_eq_iff (by positivity)] at tie
  have twice : jammedRoot (k * 2 ^ s) = 2 * ((2 * lo + 1) * 2 ^ d) := by
    have : (jammedRoot (k * 2 ^ s) : ℚ) = 2 * ((2 * lo + 1) * 2 ^ d) := by linarith
    exact_mod_cast this
  exact odd_square_ne bits pos many
    (le_antisymm ((jammedRoot_le_iff _ _).1 twice.le) ((le_jammedRoot_iff _ _).1 twice.ge))

/-! ### The statement -/

/-- The root of a positive number is the exact one, rounded once. -/
theorem fpSqrt_rounded (mem : m ∈ [Fmt.single, Fmt.double]) (mode : RoundMode) {a : Nat} (hx : fpReal m a = some x)
    (positive : 0 < x) : ∃ z, fpReal m (fpSqrt m mode a).1 = some z ∧ RootRoundsTo m mode x z ∧
      (fpSqrt m mode a).2 = if z * z = x then 0 else flagNX := by
  obtain ⟨neg, k, q, ua, rfl⟩ := fpReal_eq_some_cases hx
  have pos : 0 < k := Nat.pos_of_ne_zero fun zero => positive.ne' (rational_eq_zero_iff.2 zero)
  obtain rfl : neg = false := by
    have nonneg : (0 : ℚ) ≤ k * 2 ^ q := by positivity
    cases neg with
    | false => rfl
    | true => rw [rational_eq, if_pos rfl] at positive; linarith
  obtain ⟨bits, least, most⟩ := bounds_of_fpUnpack (standard_of_mem mem) ua
  have inside := rootInside mem pos bits least most
  have noTie := root_not_tie bits pos inside
  have like := jammedRoot_like (k * 2 ^ rootShift m q) (rootExponent m q)
  rw [← rational_eq_root] at like
  rw [fpSqrt_eq ua pos]
  generalize jammedRoot (k * 2 ^ rootShift m q) = J at *
  generalize rootExponent m q = e at *
  obtain ⟨log, leastJ, mostJ⟩ := inside
  have posJ : 0 < J := Nat.pos_of_ne_zero fun zero => by
    rw [zero, show Nat.log2 0 = 0 from rfl] at log
    omega
  have unit : formatUnit m J e = freeUnit m J e := max_eq_left leastJ
  have same := roundsLike_self m J e
  have size : |neighbour m mode false J e| ≤ m.largest := by
    refine not_lt.1 (mt (largest_lt_iff (roundAt_le posJ (freeUnit_le_formatUnit m J e) mode false) ?_).1 ?_)
    · intro above
      omega
    · omega
  have notTiny : ¬Tiny m mode (negatedIf false ((J : ℚ) * 2 ^ e)) := by
    rw [← tinyAt_iff posJ same, tinyAt, Bool.and_eq_true, decide_eq_true_iff]
    rw [freeUnit] at leastJ
    omega
  obtain ⟨value, -, exact, -, inexact⟩ := (fpRound_of_neighbour mem posJ same mode false).1 size
  have neighbour_eq : neighbour m mode false J e = roundAt mode false J e (formatUnit m J e) * 2 ^ formatUnit m J e := by
    rw [neighbour, rational_eq, if_neg Bool.false_ne_true]
  have fine : e + 1 ≤ formatUnit m J e - 1 := by
    rw [unit, freeUnit]
    omega
  have root : RootRoundsTo m mode (rational false k q) (neighbour m mode false J e) := by
    have chosen := roundAt_chosen_of_like same (freeUnit_le_formatUnit m J e) mode false
    rw [neighbour_eq]
    refine chosen.rootRoundsTo (unitAt_format posJ same) ?_ fun lo => ?_
    · rw [mul_zpow_neg_cancel]
      exact like.coarser fine
    · rw [mul_assoc, ← zpow_add₀ two_ne_zero, ← sub_eq_add_neg, unit]
      exact noTie lo
  have exact_iff : neighbour m mode false J e * neighbour m mode false J e = rational false k q ↔
      neighbour m mode false J e = J * 2 ^ e := by
    have at_neighbour := like.coarser (fine.trans (sub_le_self _ zero_le_one)) (roundAt mode false J e (formatUnit m J e))
    rw [← neighbour_eq] at at_neighbour
    rw [le_antisymm_iff, le_antisymm_iff, at_neighbour.1, at_neighbour.2]
  refine ⟨_, value, root, ?_⟩
  split
  · next square => exact exact (exact_iff.1 square)
  · next other => exact inexact (mt exact_iff.2 other) notTiny

/-- Settles O56, each operation with its remainder jammed into the last bit. -/
theorem quotients_and_roots_are_rounded : Obligations.quotients_and_roots_are_rounded :=
  fun _ mem mode _ _ _ _ hx hy => ⟨fpDiv_rounded mem mode hx hy, fpSqrt_rounded mem mode hx⟩

end Sys2Proof.Machine
end
